-- ==== Sys2Proof/Word.lean ====
section
/-! DEFINITION. The words of the KD-740: the widths of the fields its frames and records carry (R187). -/

namespace Sys2Proof

/-- One byte of a frame or record (R157). -/
abbrev Byte := BitVec 8

/-- A two-byte field, most significant byte first (R187). -/
abbrev Half := BitVec 16

/-- A three-byte field: cue times, keyframe times, abilities. -/
abbrev Triple := BitVec 24

/-- A four-byte field: positions, velocities, rates. -/
abbrev Word := BitVec 32

/-- A station number 0..15 (Introduction, 5.3). -/
abbrev Station := Fin 16

/-- A preset number 0..31 (R5). -/
abbrev Preset := Fin 32

/-- A station mask: station n is bit n of the 16-bit value (R187). -/
abbrev StationMask := BitVec 16

/-- A set of halt causes, one bit a member (R127, R187). -/
abbrev Causes := BitVec 8

/-- The flag set of a STATE report, one bit a member (R167, R187). -/
abbrev ReportFlags := BitVec 16

end Sys2Proof
end

