-- ==== Sys2Proof/Config.lean ====
section
/-! DEFINITION. What an implementation of the KD-740 fixes and the spec does not state: free values. -/

namespace Sys2Proof

/-- The revision of the part, which IDENT returns (R186) and the spec gives no value: a free value (log 16). -/
opaque Config.partRevision : Byte

/-- What the own status carries at offset `offset`, 4 to 6, while the halt record is absent: chapter 11 gives the entry
causes, the origin causes and the entry epoch no value there. A free value (log 31). -/
opaque Config.absentHaltField (offset : Nat) : Byte

end Sys2Proof
end

