-- ==== Sys2Proof/Syntax.lean ====
section
/-! DEFINITION. The commands of the KD-740: one constructor of Instr for each row of the table of operations and
events, with the fields its frame, record or event carries, raw as they arrive; and the enumerations of the spec. -/

namespace Sys2Proof

/-- The axis kinds of field 1 of the start record (R177); unset is none. -/
inductive AxisKind where
  | swing | boom | telescope | pan | tilt | roll | track | aux
  deriving DecidableEq, Repr

/-- The four station states (R127). -/
inductive StationState where
  | config | run | halting | halted
  deriving DecidableEq, Repr

/-- The state of the RUNNING slot (R26). -/
inductive CueState where
  | idle | playing | held
  deriving DecidableEq, Repr

/-- The state of the NEXT slot (R25). -/
inductive NextState where
  | empty | loaded | seeking | ready
  deriving DecidableEq, Repr

/-- The start condition of a loaded cue (R25). -/
inductive StartCondition where
  | waitGo | follow
  deriving DecidableEq, Repr

/-- The state of a directory entry (R5). -/
inductive EntryState where
  | empty | loading | recording | ready
  deriving DecidableEq, Repr

/-- The blend mode of a preset (R5). -/
inductive Mode where
  | play | trim | take
  deriving DecidableEq, Repr

/-- The shape of the segment that begins at a keyframe (R1). -/
inductive Shape where
  | linear | ease | hold
  deriving DecidableEq, Repr

/-- The standing of the position trigger (R113). -/
inductive TriggerState where
  | disarmed | arming | armed
  deriving DecidableEq, Repr

/-- The direction of the crossing that fires the trigger (R113). -/
inductive Sense where
  | rising | falling
  deriving DecidableEq, Repr

/-- How accepted mark levels cause a firing (R121): OFF, EVENT, MATCH. -/
inductive MarkMode where
  | off | event | pattern
  deriving DecidableEq, Repr

/-- What a mark firing does (R124). -/
inductive MarkAction where
  | go | stop | halt
  deriving DecidableEq, Repr

/-- The standing of the stick's deflection (R88). -/
inductive StickPhase where
  | live | held | zero
  deriving DecidableEq, Repr

/-- The drive status of a valid feedback (R145). -/
inductive DriveStatus where
  | ok | fault
  deriving DecidableEq, Repr

/-- How the most recent exchange was judged (R145). -/
inductive Judgement where
  | valid | missed
  deriving DecidableEq, Repr

/-- The match standing of the mark unit in MATCH mode (R123). -/
inductive MatchStanding where
  | setAside | out | inMatch
  deriving DecidableEq, Repr

/-- The reply codes of R173. -/
inductive ReplyCode where
  | done | busy | inUse | full | sequence | range | notOwner | rejected | frozen | badRequest | wrongState
  deriving DecidableEq, Repr

/-- The arguments of a service request: a length the kind does not require, or the fields (R188). -/
inductive Sized (α : Type) where
  | wrongLength
  | fields (a : α)
  deriving DecidableEq, Repr

/-- The arguments of START_RECORD_WRITE: a wrong length (a missing section byte among them), a section byte that
is neither 1 nor 2, or the fields of the section (R178, R188). -/
inductive SectionArgs (α : Type) where
  | wrongLength
  | badSection (number : Byte)
  | fields (a : α)
  deriving DecidableEq, Repr

/-- What a service request carries beside its arguments: its sender, from the key, and its target and tag (R172). -/
structure ReqHeader where
  sender : Station
  target : Byte
  tag : Byte
  deriving DecidableEq, Repr

/-- One channel of a STICK frame; bit 0 of the flags is RELEASE (R187). -/
structure Channel where
  target : Byte
  deflection : Half
  gain : Byte
  flags : Byte
  deriving DecidableEq, Repr

/-- The payload of a STATE report as it arrives (chapter 11). -/
structure RawReport where
  axisKind : Byte
  state : Byte
  epoch : Byte
  causes : Byte
  measured : Word
  velocity : Word
  flags : Half
  controlPeriod : Half
  cueId : Byte
  cueState : Byte
  cueTime : Triple
  ability : Triple
  stickOwner : Byte
  nextId : Byte
  nextState : Byte
  deriving DecidableEq, Repr

/-- The feedback record of the drive port as it is shifted in (R189). -/
structure RawFeedback where
  echo : Byte
  measured : Word
  status : Byte
  limits : Byte
  deriving DecidableEq, Repr

/-- The mode block of PRESET_OPEN and PRESET_EDIT (chapter 11). -/
structure RawModeBlock where
  mode : Byte
  trimRange : Word
  fadeStep : Half
  handbackDelay : Half
  passes : Byte
  cycle : Byte
  deriving DecidableEq, Repr

/-- A keyframe as KEYFRAME_WRITE carries it (chapter 11). -/
structure RawKeyframe where
  time : Triple
  position : Word
  shape : Byte
  deriving DecidableEq, Repr

/-- Fields 1 to 14 of the start record as they arrive (R177). -/
structure RawSection1 where
  axisKind : Byte
  controlPeriod : Half
  vmax : Word
  amax : Word
  aHalt : Word
  lo : Word
  hi : Word
  startWindow : Half
  catchStep : Half
  vseek : Word
  vstick : Word
  deadband : Half
  expo : Half
  takeThreshold : Half
  deriving DecidableEq, Repr

/-- Fields 15 to 28 of the start record as they arrive (R177). -/
structure RawSection2 where
  feLimit : Word
  feCount : Byte
  guardFactor : Half
  windowSize : Half
  badThreshold : Half
  couplingSource : Byte
  r0 : Word
  k : Word
  lmax : Word
  markMode : Byte
  markMask : Byte
  markPattern : Byte
  markAction : Byte
  goMask : Half
  deriving DecidableEq, Repr

/-- The arguments of PRESET_OPEN. -/
structure OpenArgs where
  preset : Byte
  count : Half
  fields : RawModeBlock
  deriving DecidableEq, Repr

/-- The arguments of KEYFRAME_WRITE; the carried keyframe count is the length of the list. -/
structure WriteArgs where
  preset : Byte
  start : Half
  keyframes : List RawKeyframe
  deriving DecidableEq, Repr

/-- The arguments of PRESET_EDIT. -/
structure EditArgs where
  preset : Byte
  fields : RawModeBlock
  deriving DecidableEq, Repr

/-- The arguments of KEYFRAME_READ. -/
structure ReadArgs where
  preset : Byte
  index : Half
  deriving DecidableEq, Repr

/-- The arguments of TRIGGER_ARM. -/
structure ArmArgs where
  watched : Byte
  sense : Byte
  threshold : Word
  hysteresis : Half
  cueId : Byte
  mask : StationMask
  deriving DecidableEq, Repr

/-- What a CONTENTION_WINDOW command tells of the line (R161, R162; log 11). `others` is the lowest key that another
station offers in the window, if any. A window is told whole, or as its opening and, later, the moment the own slot
begins, so that frames placed during the window can be told. -/
inductive WindowEvent where
  | whole (others : Option Byte)
  | opening
  | slot (others : Option Byte)
  deriving DecidableEq, Repr

/-- The commands: every row of the table of operations and events. -/
inductive Instr where
  /-- POWER_ON_RESET, with the strap levels read (R185). -/
  | powerOnReset (straps : Station)
  /-- RSTN_ASSERT (R185). -/
  | rstnAssert
  /-- RSTN_RELEASE, with the strap levels read (R185). -/
  | rstnRelease (straps : Station)
  /-- CONTROL_PERIOD_EXPIRY (R43 and the blocks' rules for an expiry). -/
  | controlPeriodExpiry
  /-- SEEK_COMPLETION (R33): an expiry at which the seek test passes (log 2). -/
  | seekCompletion
  /-- PASS_END (R45): an expiry at which the pass ends (log 2). -/
  | passEnd
  /-- HALT_COMPLETE (R133): an expiry whose computation in HALTING stores v = 0 (log 2). -/
  | haltComplete
  /-- DOWNLOAD_LAPSE (R10): an expiry that brings the lapse count to 2000 (log 2). -/
  | downloadLapse
  /-- OWNER_LAPSE (R89): an expiry that brings the hold age to 100 (log 2). -/
  | ownerLapse
  /-- CONTEST_EXPIRY (R86): an expiry that brings the contest count to 0 (log 2). -/
  | contestExpiry
  /-- CONFIG_EXCHANGE_INTERVAL (R154). -/
  | configExchangeInterval
  /-- MARK_SAMPLE, with the levels at the four pins, line MKn at bit n (R120). -/
  | markSample (levels : BitVec 4)
  /-- DRDY_RISE (R147). -/
  | drdyRise
  /-- EXCHANGE_COMPLETE, with the feedback shifted in (R148, R189). -/
  | exchangeComplete (feedback : RawFeedback)
  /-- CONTENTION_WINDOW (R161). -/
  | contentionWindow (event : WindowEvent)
  /-- TRANSMISSION_COMPLETE (R165). -/
  | transmissionComplete
  /-- BAD_ARRIVAL (R158). -/
  | badArrival
  /-- ERROR_WINDOW_END (R170): an arrival, bad or good, at which the window ends (log 3). -/
  | errorWindowEnd (bad : Bool)
  /-- HALT (R130). -/
  | halt (sender : Station) (origin : Byte) (causes : Byte) (epoch : Byte)
  /-- RESUME (R137). -/
  | resume (sender : Station) (epoch : Byte)
  /-- STICK (R82). -/
  | stick (sender : Station) (sequence : Byte) (channels : List Channel)
  /-- LOAD (R31). -/
  | load (sender : Station) (mask : StationMask) (cueId : Byte) (preset : Byte) (condition : Byte)
  /-- SEEK (R32). -/
  | seek (sender : Station) (mask : StationMask) (cueId : Byte)
  /-- GO (R35). -/
  | go (sender : Station) (mask : StationMask) (cueId : Byte)
  /-- STOP (R39). -/
  | stop (sender : Station) (mask : StationMask) (cueId : Byte)
  /-- HOLD (R40). -/
  | hold (sender : Station) (mask : StationMask) (cueId : Byte)
  /-- RELEASE (R41). -/
  | release (sender : Station) (mask : StationMask) (cueId : Byte)
  /-- LOOP_END (R42). -/
  | loopEnd (sender : Station) (mask : StationMask) (cueId : Byte)
  /-- REC_START (R11). -/
  | recStart (sender : Station) (mask : StationMask) (preset : Byte) (interval : Byte)
  /-- REC_STOP (R15). -/
  | recStop (sender : Station) (mask : StationMask)
  /-- STATE (R99). `haltFirst` says which of the trigger evaluation and the halt check is taken first (R100, log 10). -/
  | state (sender : Station) (report : RawReport) (haltFirst : Bool)
  /-- SERVICE_REPLY (R168). -/
  | serviceReply (sender : Station)
  /-- UNKNOWN_KIND (R168, R187). -/
  | unknownKind (sender : Station)
  /-- IDENT (R186). -/
  | ident (header : ReqHeader) (args : Sized Unit)
  /-- START_RECORD_WRITE with section 1, or with no section of the two (R178). -/
  | startRecordWriteSection1 (header : ReqHeader) (args : SectionArgs RawSection1)
  /-- START_RECORD_WRITE with section 2 (R179). -/
  | startRecordWriteSection2 (header : ReqHeader) (args : Sized RawSection2)
  /-- RESTART, with the strap levels read if it is accepted (R183, R184). -/
  | restart (header : ReqHeader) (args : Sized Unit) (straps : Station)
  /-- STATUS_READ with no station, or with a station byte (R142). -/
  | statusRead (header : ReqHeader) (args : Sized (Option Byte))
  /-- STATUS_READ naming a peer (R110). -/
  | statusReadPeer (header : ReqHeader) (station : Station)
  /-- COUNTERS_READ, with its clear flag (R175). -/
  | countersRead (header : ReqHeader) (args : Sized Byte)
  /-- PRESET_OPEN (R7). -/
  | presetOpen (header : ReqHeader) (args : Sized OpenArgs)
  /-- KEYFRAME_WRITE (R8). -/
  | keyframeWrite (header : ReqHeader) (args : Sized WriteArgs)
  /-- PRESET_CLOSE (R9). -/
  | presetClose (header : ReqHeader) (args : Sized Byte)
  /-- PRESET_ERASE (R16). -/
  | presetErase (header : ReqHeader) (args : Sized Byte)
  /-- PRESET_EDIT (R17). -/
  | presetEdit (header : ReqHeader) (args : Sized EditArgs)
  /-- DIRECTORY_READ (R18). -/
  | directoryRead (header : ReqHeader) (args : Sized Byte)
  /-- KEYFRAME_READ (R19). -/
  | keyframeRead (header : ReqHeader) (args : Sized ReadArgs)
  /-- POOL_COMPACT (R20). -/
  | poolCompact (header : ReqHeader) (args : Sized Unit)
  /-- COMPACTION_COMPLETE (R21). -/
  | compactionComplete
  /-- TRIGGER_ARM (R114). -/
  | triggerArm (header : ReqHeader) (args : Sized ArmArgs)
  /-- TRIGGER_DISARM (R118). -/
  | triggerDisarm (header : ReqHeader) (args : Sized Unit)
  /-- TRIGGER_READ (R118). -/
  | triggerRead (header : ReqHeader) (args : Sized Unit)
  /-- UNKNOWN_REQUEST_KIND, with the kind byte as received (R172). -/
  | unknownRequestKind (header : ReqHeader) (kind : Byte)
  /-- DRDY_FALL (R146). -/
  | drdyFall
  deriving DecidableEq, Repr

end Sys2Proof
end

