-- ==== Sys2Proof/Machine/State.lean ====
section
/-! DEFINITION. The state of the KD-740: every item each block owns (R5, R25, R26, R55, R81, R98, R113, R120, R127, R145,
R164, R170, R174, R177), the pins, and the queue of commands that wait. -/

namespace Sys2Proof.Machine

/-- A keyframe (R1): time in periods, position in au, shape of the segment that begins at it. -/
structure Keyframe where
  time : Nat
  position : Int
  shape : Shape
  deriving DecidableEq, Repr

/-- What a pool index that lists nothing reads as. No rule reads a free index (R2), so the choice shows nowhere (log 15). -/
def Keyframe.blank : Keyframe := { time := 0, position := 0, shape := .linear }

/-- The keyframe pool (R2): pairs of an index and its keyframe, in canonical form (`Pool.wf`). -/
abbrev Pool := List (Nat × Keyframe)

/-- The mode fields of a preset (R5). -/
structure ModeFields where
  mode : Mode
  trimRange : Nat
  fadeStep : Nat
  handbackDelay : Nat
  passes : Nat
  cycle : Bool
  deriving DecidableEq, Repr

/-- The EMPTY values of the mode fields, which are the recording defaults (R5). -/
def ModeFields.initial : ModeFields :=
  { mode := .play, trimRange := 0, fadeStep := 64, handbackDelay := 500, passes := 1, cycle := false }

/-- A directory entry (R5). -/
structure DirEntry where
  state : EntryState
  first : Nat
  count : Nat
  fields : ModeFields
  truncated : Bool
  deriving DecidableEq, Repr

/-- The EMPTY values of an entry (R5). -/
def DirEntry.empty : DirEntry :=
  { state := .empty, first := 0, count := 0, fields := ModeFields.initial, truncated := false }

/-- The download context (R7). -/
structure Download where
  owner : Station
  preset : Preset
  nextIndex : Nat
  lapse : Nat
  deriving DecidableEq, Repr

/-- The recording context (R12). -/
structure Recording where
  preset : Preset
  interval : Nat
  elapsed : Nat
  lastCapture : Nat
  deriving DecidableEq, Repr

/-- The preset store. `rangeCheckDue` holds R23's check deferred to the completion of a compaction. -/
structure Store where
  directory : Vector DirEntry 32
  pool : Pool
  hwm : Nat
  download : Option Download
  recording : Option Recording
  compacting : Bool
  rangeCheckDue : Bool
  deriving DecidableEq, Repr

/-- The store after power-on reset and RSTN (R24). -/
def Store.reset : Store :=
  { directory := Vector.replicate 32 DirEntry.empty, pool := [], hwm := 0, download := none, recording := none,
    compacting := false, rangeCheckDue := false }

/-- The NEXT slot (R25). -/
structure NextSlot where
  state : NextState
  preset : Preset
  cueId : Byte
  condition : StartCondition
  deriving DecidableEq, Repr

/-- The EMPTY values of the NEXT slot (R25). -/
def NextSlot.empty : NextSlot := { state := .empty, preset := 0, cueId := 255, condition := .waitGo }

/-- The RUNNING slot (R26). Positions and offsets are in fu; `cueTime` is T. -/
structure RunningSlot where
  state : CueState
  preset : Preset
  cueId : Byte
  mode : Mode
  trimRange : Nat
  fadeStep : Nat
  handbackDelay : Nat
  cycle : Bool
  participants : StationMask
  seen : StationMask
  passesLeft : Nat
  cueTime : Nat
  freshStart : Bool
  paceEff : Nat
  ability : Nat
  peerLost : Bool
  takeWeight : Nat
  shadow : Int
  handback : Nat
  trimOffset : Int
  catchWeight : Nat
  catchOrigin : Int
  deriving DecidableEq, Repr

/-- The IDLE values of the RUNNING slot (R26). -/
def RunningSlot.idle : RunningSlot :=
  { state := .idle, preset := 0, cueId := 255, mode := .play, trimRange := 0, fadeStep := 64, handbackDelay := 500,
    cycle := false, participants := 0, seen := 0, passesLeft := 1, cueTime := 0, freshStart := false, paceEff := 0,
    ability := 65536, peerLost := false, takeWeight := 0, shadow := 0, handback := 0, trimOffset := 0,
    catchWeight := 0, catchOrigin := 0 }

/-- The blend and limit stage's own state (R55): x in fu, v in fu per period; `taking` is take target 4096. -/
structure Blend where
  x : Int
  v : Int
  atLimit : Bool
  taking : Bool
  deriving DecidableEq, Repr

/-- The stage after power-on reset and RSTN (R80). -/
def Blend.reset : Blend := { x := 0, v := 0, atLimit := false, taking := false }

/-- The stick record (R81). -/
structure Stick where
  owner : Option Station
  deflection : Int
  gain : Nat
  holdAge : Nat
  phase : StickPhase
  ownerSequence : Byte
  contest : Nat
  lapsed : Bool
  deriving DecidableEq, Repr

/-- The stick record after power-on reset, RSTN and RESTART (R81, R97). -/
def Stick.reset : Stick :=
  { owner := none, deflection := 0, gain := 0, holdAge := 255, phase := .zero, ownerSequence := 0, contest := 0,
    lapsed := false }

/-- The fields of a STATE report (R98, R167). -/
structure Report where
  axisKind : Option AxisKind
  state : StationState
  epoch : Byte
  causes : Causes
  measured : Int
  velocity : Int
  flags : ReportFlags
  controlPeriod : Nat
  cueId : Byte
  cueState : CueState
  cueTime : Nat
  ability : Nat
  stickOwner : Option Station
  nextId : Byte
  nextState : NextState
  deriving DecidableEq, Repr

/-- The reset values of a record's copied fields (R98). -/
def Report.unset : Report :=
  { axisKind := none, state := .config, epoch := 0, causes := 0, measured := 0, velocity := 0, flags := 0,
    controlPeriod := 0, cueId := 255, cueState := .idle, cueTime := 0, ability := 65536, stickOwner := none,
    nextId := 255, nextState := .empty }

/-- A peer record (R98). -/
structure PeerRecord where
  present : Bool
  report : Report
  age : Nat
  mismatch : Bool
  deriving DecidableEq, Repr

/-- The reset values of a peer record (R98). -/
def PeerRecord.absent : PeerRecord := { present := false, report := Report.unset, age := 255, mismatch := false }

/-- The coupling value of the last expiry and whether it was formed blind (R108, R109). -/
structure Coupling where
  value : Nat
  blind : Bool
  deriving DecidableEq, Repr

/-- The peer table: sixteen records, and the coupling value where one stands (R98, R110). -/
structure Peers where
  records : Vector PeerRecord 16
  coupling : Option Coupling
  deriving DecidableEq, Repr

/-- The table after power-on reset, RSTN and RESTART (R111). -/
def Peers.reset : Peers := { records := Vector.replicate 16 PeerRecord.absent, coupling := none }

/-- The position trigger record (R113). -/
structure Trigger where
  state : TriggerState
  watched : Station
  sense : Sense
  threshold : Int
  hysteresis : Nat
  cueId : Byte
  mask : StationMask
  deriving DecidableEq, Repr

/-- The trigger record's reset values (R113). -/
def Trigger.reset : Trigger :=
  { state := .disarmed, watched := 0, sense := .rising, threshold := 0, hysteresis := 0, cueId := 255, mask := 0 }

/-- Four things, one for each mark line MK0..MK3. -/
structure Lines (α : Type) where
  mk0 : α
  mk1 : α
  mk2 : α
  mk3 : α
  deriving DecidableEq, Repr

/-- One mark line (R120): the previous sample, none before the first, and the accepted level, none while unset. -/
structure MarkLine where
  previous : Option Bool
  accepted : Option Bool
  deriving DecidableEq, Repr

/-- A line after power-on reset and RSTN (R120). -/
def MarkLine.reset : MarkLine := { previous := none, accepted := none }

/-- The mark unit (R120, R123, R125). -/
structure Mark where
  lines : Lines MarkLine
  standing : MatchStanding
  latched : Option (Lines (Option Bool))
  deriving DecidableEq, Repr

/-- The mark unit after power-on reset and RSTN (R126). -/
def Mark.reset : Mark :=
  { lines := { mk0 := MarkLine.reset, mk1 := MarkLine.reset, mk2 := MarkLine.reset, mk3 := MarkLine.reset },
    standing := .out, latched := none }

/-- The halt record (R127). -/
structure HaltRecord where
  origin : Station
  entryCauses : Causes
  originCauses : Causes
  entryEpoch : Byte
  deriving DecidableEq, Repr

/-- Halt control (R127). -/
structure Halt where
  station : StationState
  causes : Causes
  epoch : Byte
  record : Option HaltRecord
  deriving DecidableEq, Repr

/-- Halt control after power-on reset, RSTN and RESTART (R127, R144). -/
def Halt.reset : Halt := { station := .config, causes := 0, epoch := 0, record := none }

/-- A setpoint record (R75, R145). -/
structure Setpoint where
  sequence : Byte
  position : Int
  velocity : Int
  enable : Bool
  halting : Bool
  deriving DecidableEq, Repr

/-- The drive port (R145). `validSinceExpiry` is the condition of R134: a valid feedback since the previous expiry. -/
structure Port where
  pendingRecord : Option Setpoint
  inFlight : Option Setpoint
  nextSequence : Byte
  feedbackSeen : Bool
  measured : Int
  status : DriveStatus
  posLimit : Bool
  negLimit : Bool
  error : Nat
  lastExchange : Judgement
  missRun : Nat
  followingRun : Nat
  validSinceExpiry : Bool
  deriving DecidableEq, Repr

/-- The drive port after power-on reset and RSTN (R145). -/
def Port.reset : Port :=
  { pendingRecord := none, inFlight := none, nextSequence := 0, feedbackSeen := false, measured := 0, status := .ok,
    posLimit := false, negLimit := false, error := 0, lastExchange := .valid, missRun := 0, followingRun := 0,
    validSinceExpiry := false }

/-- A HALT frame of the outbound list (R129). -/
structure HaltFrame where
  origin : Station
  causes : Causes
  epoch : Byte
  deriving DecidableEq, Repr

/-- A cue frame of the outbound list: only GO and STOP are originated (R160, R164). -/
inductive CueFrame where
  | go (mask : StationMask) (cueId : Byte)
  | stop (mask : StationMask) (cueId : Byte)
  deriving DecidableEq, Repr

/-- A service reply (R172, chapter 11); the results are the bytes after the four-byte reply header. -/
structure Reply where
  target : Station
  tag : Byte
  kind : Byte
  code : ReplyCode
  results : List Byte
  deriving DecidableEq, Repr

/-- A frame this station sends (R160). -/
inductive Frame where
  | halt (f : HaltFrame)
  | cue (f : CueFrame)
  | state (r : Report)
  | reply (r : Reply)
  deriving DecidableEq, Repr

/-- The parts of the outbound list, in the order of R162. -/
inductive Part where
  | halt | cue | state | reply
  deriving DecidableEq, Repr

/-- The part offered in the contention window that runs, and its key, fixed at the opening (R162). -/
structure Offer where
  part : Part
  key : Byte
  deriving DecidableEq, Repr

/-- The frame in flight, with the key its header carries (R162). -/
structure InFlight where
  key : Byte
  frame : Frame
  deriving DecidableEq, Repr

/-- The nine traffic counters (R174). -/
structure Counters where
  rxGood : Nat
  rxBad : Nat
  outDrop : Nat
  reqDrop : Nat
  cueMiss : Nat
  stickContest : Nat
  stickGap : Nat
  driveMiss : Nat
  loadLapse : Nat
  deriving DecidableEq, Repr

/-- All nine counters at 0 (R176). -/
def Counters.zero : Counters :=
  { rxGood := 0, rxBad := 0, outDrop := 0, reqDrop := 0, cueMiss := 0, stickContest := 0, stickGap := 0,
    driveMiss := 0, loadLapse := 0 }

/-- The link interface: the outbound list (R164), the frame in flight, the offer of a running window (R162), the error
window (R170) and the traffic counters (R174). -/
structure Link where
  haltSlot : Option HaltFrame
  cueList : List CueFrame
  stateSlot : Option Report
  replySlot : Option Reply
  inFlight : Option InFlight
  offer : Option Offer
  arrivals : Nat
  badArrivals : Nat
  linkPoor : Bool
  counters : Counters
  deriving DecidableEq, Repr

/-- The link interface after power-on reset and RSTN (R176). -/
def Link.reset : Link :=
  { haltSlot := none, cueList := [], stateSlot := none, replySlot := none, inFlight := none, offer := none,
    arrivals := 0, badArrivals := 0, linkPoor := false, counters := Counters.zero }

/-- Fields 1 to 14 of the start record (R177). -/
structure Section1 where
  axisKind : AxisKind
  controlPeriod : Nat
  vmax : Nat
  amax : Nat
  aHalt : Nat
  lo : Int
  hi : Int
  startWindow : Nat
  catchStep : Nat
  vseek : Nat
  vstick : Nat
  deadband : Nat
  expo : Nat
  takeThreshold : Nat
  deriving DecidableEq, Repr

/-- Fields 15 to 28 of the start record (R177). -/
structure Section2 where
  feLimit : Nat
  feCount : Nat
  guardFactor : Nat
  windowSize : Nat
  badThreshold : Nat
  couplingSource : Option Station
  r0 : Nat
  k : Nat
  lmax : Nat
  markMode : MarkMode
  markMask : BitVec 4
  markPattern : BitVec 4
  markAction : MarkAction
  goMask : StationMask
  deriving DecidableEq, Repr

/-- The start record: both sections (R177). -/
structure StartRecord extends Section1, Section2 where
  deriving DecidableEq, Repr

/-- What an unfrozen record's fields read as. No block reads them while the frozen flag is clear (R177; log 20). -/
def StartRecord.cleared : StartRecord :=
  { axisKind := .swing, controlPeriod := 0, vmax := 0, amax := 0, aHalt := 0, lo := 0, hi := 0, startWindow := 0,
    catchStep := 0, vseek := 0, vstick := 0, deadband := 0, expo := 0, takeThreshold := 0, feLimit := 0, feCount := 0,
    guardFactor := 0, windowSize := 0, badThreshold := 0, couplingSource := none, r0 := 0, k := 0, lmax := 0,
    markMode := .off, markMask := 0, markPattern := 0, markAction := .go, goMask := 0 }

/-- The start record and identity block (R177). The frozen flag is set exactly when `record` stands. -/
structure Start where
  record : Option StartRecord
  staged : Option Section1
  station : Station
  deriving DecidableEq, Repr

/-- The levels at the pins that keep a level between commands: RSTN and DRDY, true for high. -/
structure Pins where
  rstn : Bool
  drdy : Bool
  deriving DecidableEq, Repr

/-- The state of the part, and the queue of the commands that wait, first in first out. -/
structure State where
  pending : List Instr
  pins : Pins
  store : Store
  next : NextSlot
  running : RunningSlot
  blend : Blend
  stick : Stick
  peers : Peers
  trigger : Trigger
  mark : Mark
  halt : Halt
  port : Port
  link : Link
  start : Start
  deriving DecidableEq, Repr

/-- The reasons a step could stop the model with a fault. There is none: every event the spec describes leaves a next
state, and a fault of the axis is a halt cause (R127 to R134). Nobody raises one; safe. -/
inductive Fault where
  deriving DecidableEq, Repr

/-- The reasons a command has no meaning here. -/
inductive Refusal where
  /-- Raised by exec's own arm of a command that has no meaning yet; no arm does. Safe: the model stops where the part
  goes on. -/
  | notModelled (mnemonic : String)
  deriving DecidableEq, Repr

def State.setPins (s : State) (p : Pins) : State := { s with pins := p }
def State.setStore (s : State) (p : Store) : State := { s with store := p }
def State.setNext (s : State) (p : NextSlot) : State := { s with next := p }
def State.setRunning (s : State) (p : RunningSlot) : State := { s with running := p }
def State.setBlend (s : State) (p : Blend) : State := { s with blend := p }
def State.setStick (s : State) (p : Stick) : State := { s with stick := p }
def State.setPeers (s : State) (p : Peers) : State := { s with peers := p }
def State.setTrigger (s : State) (p : Trigger) : State := { s with trigger := p }
def State.setMark (s : State) (p : Mark) : State := { s with mark := p }
def State.setHalt (s : State) (p : Halt) : State := { s with halt := p }
def State.setPort (s : State) (p : Port) : State := { s with port := p }
def State.setLink (s : State) (p : Link) : State := { s with link := p }
def State.setStart (s : State) (p : Start) : State := { s with start := p }
def State.setPending (s : State) (q : List Instr) : State := { s with pending := q }

/-- The part as the release of RSTN leaves it, with the straps read at the levels given, the DRDY pin at its level and
nothing waiting in the queue (R185 and the reset rules it lists). -/
def State.afterReset (straps : Station) (pins : Pins) : State :=
  { pending := [], pins := pins, store := Store.reset, next := NextSlot.empty, running := RunningSlot.idle,
    blend := Blend.reset, stick := Stick.reset, peers := Peers.reset, trigger := Trigger.reset, mark := Mark.reset,
    halt := Halt.reset, port := Port.reset, link := Link.reset,
    start := { record := none, staged := none, station := straps } }

/-- The machine right after reset (R185). DESIGN CHOICE: the straps read 15, all four open (log 13), and DRDY is low
(log 14). -/
def State.reset : State := State.afterReset 15 { rstn := true, drdy := false }

end Sys2Proof.Machine
end

