-- ==== Sys2Proof/Machine/Ops.lean ====
section
/-! DEFINITION. The shared operations that belong to no one block: the arithmetic of the Introduction (5.2), saturating
counts (5.3), station masks, tables, the keyframe pool as an addressed buffer (R1, R2) and the traffic counters (R174). -/

namespace Sys2Proof.Machine

/-- clamp(a, lo, hi): a, raised to lo if below it and lowered to hi if above it (Introduction, 5.2). -/
def clamp (a lo hi : Int) : Int := min (max a lo) hi

/-- Rounding from fu to whole au: floor((x + 32768) / 65536) (Introduction, 5.2). -/
def roundAu (x : Int) : Int := (x + 32768) / 65536

/-- The rounded setpoint of the drive and of STATUS_READ, lowered to the top of the au range (R189). -/
def roundAuCapped (x : Int) : Int := min (roundAu x) 2147483647

/-- au to fu. -/
def fu (au : Int) : Int := au * 65536

/-- Digit-by-digit search for the floor square root: the bits below `k` of the root, above those in `acc`. -/
def isqrtFrom (n : Nat) : Nat → Nat → Nat
  | 0, acc => acc
  | k + 1, acc => if (acc + 2 ^ k) * (acc + 2 ^ k) ≤ n then isqrtFrom n k (acc + 2 ^ k) else isqrtFrom n k acc

/-- isqrt(n), the floor square root (Introduction, 5.2), for the n below 2^64 that the part forms (R69, R70). -/
def isqrt (n : Nat) : Nat := isqrtFrom n 32 0

/-- A count that saturates at its stated maximum (Introduction, 5.3). -/
def satAdd (top n k : Nat) : Nat := min (n + k) top

/-- The station numbers, in ascending order. -/
def stations : List Station := [0, 1, 2, 3, 4, 5, 6, 7, 8, 9, 10, 11, 12, 13, 14, 15]

/-- Membership in a station mask: station n is bit n (R187). -/
def maskHas (m : StationMask) (n : Station) : Bool := m.getLsbD n.val

/-- A station mask with one member more. -/
def maskAdd (m : StationMask) (n : Station) : StationMask := m ||| (1#16 <<< n.val)

/-- Membership of a mark line MKn in a set of lines (R187). -/
def lineBit (m : BitVec 4) (n : Nat) : Bool := m.getLsbD n

/-- A table with every entry mapped. -/
def mapTable {α : Type} {n : Nat} (f : α → α) (t : Vector α n) : Vector α n := Vector.ofFn fun i => f t[i]

/-! The four mark lines. -/

def Lines.map {α β : Type} (f : α → β) (l : Lines α) : Lines β :=
  { mk0 := f l.mk0, mk1 := f l.mk1, mk2 := f l.mk2, mk3 := f l.mk3 }

def Lines.zip {α β γ : Type} (f : α → β → γ) (a : Lines α) (b : Lines β) : Lines γ :=
  { mk0 := f a.mk0 b.mk0, mk1 := f a.mk1 b.mk1, mk2 := f a.mk2 b.mk2, mk3 := f a.mk3 b.mk3 }

def Lines.toList {α : Type} (l : Lines α) : List α := [l.mk0, l.mk1, l.mk2, l.mk3]

/-- The four bits of a set of lines or of sampled levels, MKn at bit n (R187). -/
def linesOf (m : BitVec 4) : Lines Bool :=
  { mk0 := lineBit m 0, mk1 := lineBit m 1, mk2 := lineBit m 2, mk3 := lineBit m 3 }

/-! The keyframe pool, R1 and R2. -/

/-- The keyframe at an index; an index that lists nothing reads as `Keyframe.blank` (log 15). -/
def Pool.read : Pool → Nat → Keyframe
  | [], _ => Keyframe.blank
  | (j, k) :: rest, i => if j = i then k else Pool.read rest i

/-- The pool with index i listing nothing. -/
def Pool.erase (p : Pool) (i : Nat) : Pool := p.filter fun c => c.1 ≠ i

/-- A sorted list with one pair more, placed before the first higher index. -/
def Pool.insert : Pool → Nat → Keyframe → Pool
  | [], i, k => [(i, k)]
  | (j, kj) :: rest, i, k => if i < j then (i, k) :: (j, kj) :: rest else (j, kj) :: Pool.insert rest i k

/-- The pool with keyframe k at index i; the canonical form lists no blank (R1). -/
def Pool.write (p : Pool) (i : Nat) (k : Keyframe) : Pool :=
  if k = Keyframe.blank then p.erase i else (p.erase i).insert i k

/-- Keyframes written at i, i + 1, … in the order given (R8). -/
def Pool.writeAll (p : Pool) (i : Nat) : List Keyframe → Pool
  | [] => p
  | k :: rest => Pool.writeAll (p.write i k) (i + 1) rest

/-- The pool with the indices first..first + count − 1 freed (R4). -/
def Pool.freeRange (p : Pool) (first count : Nat) : Pool :=
  p.filter fun c => c.1 < first ∨ first + count ≤ c.1

/-- The indices strictly rise. -/
def Pool.rising : Pool → Bool
  | [] => true
  | [_] => true
  | a :: b :: rest => a.1 < b.1 && Pool.rising (b :: rest)

/-- The canonical form: indices strictly rising, and no entry equal to what an unlisted index reads as. -/
def Pool.wf (p : Pool) : Bool := p.rising && p.all fun c => c.2 ≠ Keyframe.blank

/-- The keyframes of the range first..first + count − 1, in order (R2). -/
def Pool.range (p : Pool) (first count : Nat) : List Keyframe :=
  (List.range count).map fun i => p.read (first + i)

/-! The start record in force. -/

/-- The frozen flag (R177). -/
def State.frozen (s : State) : Bool := s.start.record.isSome

/-- The start record every block reads; while it is not frozen no block reads it (R177, log 20). -/
def State.record (s : State) : StartRecord := s.start.record.getD StartRecord.cleared

/-- The own station number (R177). -/
def State.own (s : State) : Station := s.start.station

/-- The control period timer runs in RUN, HALTING and HALTED (R78, R101, R181), and not while RSTN is held low. -/
def State.timerRuns (s : State) : Bool := s.pins.rstn && s.halt.station ≠ .config

/-! The traffic counters, R174: 16-bit counts that stay at 65535. -/

def State.mapCounters (f : Counters → Counters) (s : State) : State :=
  s.setLink { s.link with counters := f s.link.counters }

/-- CUE_MISS (R29, R11, R15, R124). -/
def State.countMiss (s : State) : State :=
  s.mapCounters fun c => { c with cueMiss := satAdd 65535 c.cueMiss 1 }

/-- OUT_DROP (R164). -/
def State.countOutDrop (s : State) : State :=
  s.mapCounters fun c => { c with outDrop := satAdd 65535 c.outDrop 1 }

/-- REQ_DROP (R172). -/
def State.countReqDrop (s : State) : State :=
  s.mapCounters fun c => { c with reqDrop := satAdd 65535 c.reqDrop 1 }

/-- STICK_CONTEST (R86). -/
def State.countContest (s : State) : State :=
  s.mapCounters fun c => { c with stickContest := satAdd 65535 c.stickContest 1 }

/-- STICK_GAP, by the gap (R87). -/
def State.countGap (gap : Nat) (s : State) : State :=
  s.mapCounters fun c => { c with stickGap := satAdd 65535 c.stickGap gap }

/-- DRIVE_MISS (R149). -/
def State.countDriveMiss (s : State) : State :=
  s.mapCounters fun c => { c with driveMiss := satAdd 65535 c.driveMiss 1 }

/-- LOAD_LAPSE (R10). -/
def State.countLoadLapse (s : State) : State :=
  s.mapCounters fun c => { c with loadLapse := satAdd 65535 c.loadLapse 1 }

end Sys2Proof.Machine
end

