-- ==== Sys2Proof/Machine/Flags.lean ====
section
/-! DEFINITION. The sets carried as bits: the halt causes (R127, R187) and the flag set of a STATE report (R167, R187). -/

namespace Sys2Proof.Machine

/-! The causes of R127, each at its bit (R187). -/

def causeRemote : Causes := 0x01
def causePeer : Causes := 0x02
def causeMark : Causes := 0x04
def causeFollowing : Causes := 0x08
def causeDriveLost : Causes := 0x10
def causeDriveFault : Causes := 0x20
def causeLimitSwitch : Causes := 0x40
def causeNumberClash : Causes := 0x80

/-- The causes of b are among those of a. -/
def causesHave (a b : Causes) : Bool := a &&& b == b

/-- A set that is empty unless its condition holds. -/
def causeIf (p : Bool) (c : Causes) : Causes := if p then c else 0

/-- One flag of a report at its bit (R187). -/
def flagIf (p : Bool) (bit : Nat) : ReportFlags := if p then 1#16 <<< bit else 0

/-- The bits of the flag set that name a member; the others are ignored on receipt (R187). -/
def namedFlags : ReportFlags := 0x07FF

/-! Freshness of a peer record (R102), decided at each reading. -/

def PeerRecord.fresh (r : PeerRecord) : Bool := r.present && r.age ≤ 8

/-- PERIOD_MISMATCH of the own report (R104). -/
def Peers.periodMismatch (p : Peers) : Bool := stations.any fun n => p.records[n].fresh && p.records[n].mismatch

/-- COUPLE_BLIND of the own report (R109). -/
def Peers.coupleBlind (p : Peers) : Bool :=
  match p.coupling with
  | some c => c.blind
  | none => false

/-- The flag set of the own report (R167). -/
def State.reportFlags (s : State) : ReportFlags :=
  flagIf (s.port.status = .fault) 0 ||| flagIf s.port.posLimit 1 ||| flagIf s.port.negLimit 2 |||
  flagIf s.blend.atLimit 3 ||| flagIf s.running.peerLost 4 ||| flagIf (0 < s.stick.contest) 5 |||
  flagIf s.stick.lapsed 6 ||| flagIf s.peers.periodMismatch 7 ||| flagIf s.peers.coupleBlind 8 |||
  flagIf s.store.compacting 9 ||| flagIf s.link.linkPoor 10

end Sys2Proof.Machine
end

