-- ==== Sys2Proof/Machine/Operands.lean ====
section
/-! DEFINITION. Reading the operands of a command: the codes of the enumerations (R187) and the ranges that a rule checks
before it acts (R1, R5, R81, R99, R114, R177). -/

namespace Sys2Proof.Machine

/-! The codes of R187. -/

def axisKindCode : Option AxisKind → Byte
  | some .swing => 0
  | some .boom => 1
  | some .telescope => 2
  | some .pan => 3
  | some .tilt => 4
  | some .roll => 5
  | some .track => 6
  | some .aux => 7
  | none => 255

def axisKindOf (b : Byte) : Option AxisKind :=
  match b.toNat with
  | 0 => some .swing
  | 1 => some .boom
  | 2 => some .telescope
  | 3 => some .pan
  | 4 => some .tilt
  | 5 => some .roll
  | 6 => some .track
  | 7 => some .aux
  | _ => none

/-- The axis kind of a report: a kind of the list, or unset (R99). -/
def reportedKindOf (b : Byte) : Option (Option AxisKind) := if b = 255 then some none else (axisKindOf b).map some

def stationStateCode : StationState → Byte
  | .config => 0
  | .run => 1
  | .halting => 2
  | .halted => 3

def stationStateOf (b : Byte) : Option StationState :=
  match b.toNat with
  | 0 => some .config
  | 1 => some .run
  | 2 => some .halting
  | 3 => some .halted
  | _ => none

def cueStateCode : CueState → Byte
  | .idle => 0
  | .playing => 1
  | .held => 2

def cueStateOf (b : Byte) : Option CueState :=
  match b.toNat with
  | 0 => some .idle
  | 1 => some .playing
  | 2 => some .held
  | _ => none

def nextStateCode : NextState → Byte
  | .empty => 0
  | .loaded => 1
  | .seeking => 2
  | .ready => 3

def nextStateOf (b : Byte) : Option NextState :=
  match b.toNat with
  | 0 => some .empty
  | 1 => some .loaded
  | 2 => some .seeking
  | 3 => some .ready
  | _ => none

def startConditionCode : StartCondition → Byte
  | .waitGo => 0
  | .follow => 1

def startConditionOf (b : Byte) : Option StartCondition :=
  match b.toNat with
  | 0 => some .waitGo
  | 1 => some .follow
  | _ => none

def entryStateCode : EntryState → Byte
  | .empty => 0
  | .loading => 1
  | .recording => 2
  | .ready => 3

def modeCode : Mode → Byte
  | .play => 0
  | .trim => 1
  | .take => 2

def modeOf (b : Byte) : Option Mode :=
  match b.toNat with
  | 0 => some .play
  | 1 => some .trim
  | 2 => some .take
  | _ => none

def shapeCode : Shape → Byte
  | .linear => 0
  | .ease => 1
  | .hold => 2

def shapeOf (b : Byte) : Option Shape :=
  match b.toNat with
  | 0 => some .linear
  | 1 => some .ease
  | 2 => some .hold
  | _ => none

def triggerStateCode : TriggerState → Byte
  | .disarmed => 0
  | .arming => 1
  | .armed => 2

def senseCode : Sense → Byte
  | .rising => 0
  | .falling => 1

def senseOf (b : Byte) : Option Sense :=
  match b.toNat with
  | 0 => some .rising
  | 1 => some .falling
  | _ => none

def markModeOf (b : Byte) : Option MarkMode :=
  match b.toNat with
  | 0 => some .off
  | 1 => some .event
  | 2 => some .pattern
  | _ => none

def markActionOf (b : Byte) : Option MarkAction :=
  match b.toNat with
  | 0 => some .go
  | 1 => some .stop
  | 2 => some .halt
  | _ => none

def stickPhaseCode : StickPhase → Byte
  | .live => 0
  | .held => 1
  | .zero => 2

def replyCodeByte : ReplyCode → Byte
  | .done => 0
  | .busy => 1
  | .inUse => 2
  | .full => 3
  | .sequence => 4
  | .range => 5
  | .notOwner => 6
  | .rejected => 7
  | .frozen => 8
  | .badRequest => 9
  | .wrongState => 10

def switchOf (b : Byte) : Option Bool :=
  match b.toNat with
  | 0 => some false
  | 1 => some true
  | _ => none

def switchCode (b : Bool) : Byte := if b then 1 else 0

/-! Numbers of stations and presets. -/

def stationByte (n : Station) : Byte := BitVec.ofNat 8 n.val

/-- A station field, 255 for NONE (R187). -/
def stationField : Option Station → Byte
  | some n => stationByte n
  | none => 255

/-- A byte 0..15 names a station. -/
def stationOf (b : Byte) : Option Station := if h : b.toNat < 16 then some ⟨b.toNat, h⟩ else none

/-- A station, or NONE as 255 (R187); any other byte is out of range. -/
def stationFieldOf (b : Byte) : Option (Option Station) := if b = 255 then some none else (stationOf b).map some

def presetByte (p : Preset) : Byte := BitVec.ofNat 8 p.val

/-- A byte 0..31 names a preset. -/
def presetOf (b : Byte) : Option Preset := if h : b.toNat < 32 then some ⟨b.toNat, h⟩ else none

/-! Fields of the requests. -/

/-- A carried keyframe (R1, R8): none when its shape is unknown; the three bytes of its time hold no more than 16777215. -/
def keyframeOf (k : RawKeyframe) : Option Keyframe :=
  (shapeOf k.shape).map fun sh => { time := k.time.toNat, position := k.position.toInt, shape := sh }

/-- All the carried keyframes, or none when one is out of range (R8). -/
def keyframesOf : List RawKeyframe → Option (List Keyframe)
  | [] => some []
  | k :: rest =>
    match keyframeOf k, keyframesOf rest with
    | some kf, some kfs => some (kf :: kfs)
    | _, _ => none

/-- A mode block with every field in its range (R5), or none. -/
def modeFieldsOf (b : RawModeBlock) : Option ModeFields :=
  match modeOf b.mode, switchOf b.cycle with
  | some m, some cy =>
    if b.trimRange.toNat ≤ 2147483647 ∧ 1 ≤ b.fadeStep.toNat ∧ b.fadeStep.toNat ≤ 4096 ∧ 1 ≤ b.passes.toNat then
      some { mode := m, trimRange := b.trimRange.toNat, fadeStep := b.fadeStep.toNat,
             handbackDelay := b.handbackDelay.toNat, passes := b.passes.toNat, cycle := cy }
    else none
  | _, _ => none

/-- The trigger fields of TRIGGER_ARM, or none when one is out of range or the mask is empty (R114). -/
def triggerOf (a : ArmArgs) : Option Trigger :=
  match stationOf a.watched, senseOf a.sense with
  | some w, some se =>
    if a.cueId ≠ 255 ∧ a.mask ≠ 0 then
      some { state := .arming, watched := w, sense := se, threshold := a.threshold.toInt,
             hysteresis := a.hysteresis.toNat, cueId := a.cueId, mask := a.mask }
    else none
  | _, _ => none

/-! A STATE report. -/

/-- The report with every field in its range, or none (R99). Flag bits that name no member are ignored (R187). -/
def reportOf (r : RawReport) : Option Report :=
  match reportedKindOf r.axisKind, stationStateOf r.state, cueStateOf r.cueState, nextStateOf r.nextState,
      stationFieldOf r.stickOwner with
  | some kind, some st, some cue, some nx, some owner =>
    if (r.controlPeriod = 0 ∨ (500 ≤ r.controlPeriod.toNat ∧ r.controlPeriod.toNat ≤ 4000)) ∧
        r.ability.toNat ≤ 65536 then
      some { axisKind := kind, state := st, epoch := r.epoch, causes := r.causes, measured := r.measured.toInt,
             velocity := r.velocity.toInt, flags := r.flags &&& namedFlags, controlPeriod := r.controlPeriod.toNat,
             cueId := r.cueId, cueState := cue, cueTime := r.cueTime.toNat, ability := r.ability.toNat,
             stickOwner := owner, nextId := r.nextId, nextState := nx }
    else none
  | _, _, _, _, _ => none

/-! A STICK channel. -/

/-- The deflection of a channel; −32768 is read as −32767 (R82). -/
def deflectionOf (h : Half) : Int := max h.toInt (-32767)

/-- The RELEASE flag of a channel (R187). -/
def channelReleased (c : Channel) : Bool := c.flags.getLsbD 0

/-! The start record, R177. -/

/-- The lowest number whose check fails, the checks taken in order. -/
def firstFailing : List (Nat × Bool) → Option Nat
  | [] => none
  | (n, ok) :: rest => if ok then firstFailing rest else some n

/-- lo ≤ n ≤ hi, as a check. -/
def within (lo n hi : Nat) : Bool := lo ≤ n && n ≤ hi

/-- The checks of fields 1 to 14 (R177, R178). -/
def section1Checks (r : RawSection1) : List (Nat × Bool) :=
  [(1, (axisKindOf r.axisKind).isSome), (2, within 500 r.controlPeriod.toNat 4000), (3, within 1 r.vmax.toNat 2147418112),
   (4, within 1 r.amax.toNat r.vmax.toNat), (5, within r.amax.toNat r.aHalt.toNat r.vmax.toNat),
   (7, r.lo.toInt < r.hi.toInt), (9, within 1 r.catchStep.toNat 4096), (10, within 1 r.vseek.toNat r.vmax.toNat),
   (11, within 0 r.vstick.toNat r.vmax.toNat), (12, within 0 r.deadband.toNat 8191), (13, within 0 r.expo.toNat 256),
   (14, within r.deadband.toNat r.takeThreshold.toNat 32767)]

/-- The checks of fields 15 to 28, at the station `own` (R177, R179). -/
def section2Checks (own : Station) (r : RawSection2) : List (Nat × Bool) :=
  [(15, within 1 r.feLimit.toNat 2147483647), (16, within 1 r.feCount.toNat 255), (17, within 32 r.guardFactor.toNat 256),
   (18, within 64 r.windowSize.toNat 4096), (19, within 1 r.badThreshold.toNat r.windowSize.toNat),
   (20, match stationFieldOf r.couplingSource with
        | some (some n) => n ≠ own
        | some none => true
        | none => false),
   (21, within 1 r.r0.toNat 2147483647), (23, within 0 r.lmax.toNat 2147483647), (24, (markModeOf r.markMode).isSome),
   (27, (markActionOf r.markAction).isSome)]

/-- Fields 1 to 14 as the values they spell; read only once the checks have passed. -/
def section1Of (r : RawSection1) : Section1 :=
  { axisKind := (axisKindOf r.axisKind).getD .swing, controlPeriod := r.controlPeriod.toNat, vmax := r.vmax.toNat,
    amax := r.amax.toNat, aHalt := r.aHalt.toNat, lo := r.lo.toInt, hi := r.hi.toInt,
    startWindow := r.startWindow.toNat, catchStep := r.catchStep.toNat, vseek := r.vseek.toNat,
    vstick := r.vstick.toNat, deadband := r.deadband.toNat, expo := r.expo.toNat,
    takeThreshold := r.takeThreshold.toNat }

/-- Fields 15 to 28 as the values they spell; read only once the checks have passed. Bits 4..7 of a set of lines are
ignored (R187). -/
def section2Of (r : RawSection2) : Section2 :=
  { feLimit := r.feLimit.toNat, feCount := r.feCount.toNat, guardFactor := r.guardFactor.toNat,
    windowSize := r.windowSize.toNat, badThreshold := r.badThreshold.toNat,
    couplingSource := (stationFieldOf r.couplingSource).getD none, r0 := r.r0.toNat, k := r.k.toNat,
    lmax := r.lmax.toNat, markMode := (markModeOf r.markMode).getD .off, markMask := r.markMask.setWidth 4,
    markPattern := r.markPattern.setWidth 4, markAction := (markActionOf r.markAction).getD .go, goMask := r.goMask }

end Sys2Proof.Machine
end

