-- ==== Sys2Proof/Machine/Layout.lean ====
section
/-! DEFINITION. The bytes of the frames this station sends and of the records it shifts out (R157, R159, R160, R187 to
R189), and the reading of fields at offsets of a payload. -/

namespace Sys2Proof.Machine

/-! Values of more than one byte, most significant byte first (R187). -/

def be16 (w : Half) : List Byte := [w.extractLsb' 8 8, w.extractLsb' 0 8]

def be24 (w : Triple) : List Byte := [w.extractLsb' 16 8, w.extractLsb' 8 8, w.extractLsb' 0 8]

def be32 (w : Word) : List Byte :=
  [w.extractLsb' 24 8, w.extractLsb' 16 8, w.extractLsb' 8 8, w.extractLsb' 0 8]

def nat8 (n : Nat) : Byte := BitVec.ofNat 8 n
def nat16 (n : Nat) : List Byte := be16 (BitVec.ofNat 16 n)
def nat24 (n : Nat) : List Byte := be24 (BitVec.ofNat 24 n)
def nat32 (n : Nat) : List Byte := be32 (BitVec.ofNat 32 n)
def int32 (x : Int) : List Byte := be32 (BitVec.ofInt 32 x)

/-- The byte at an offset of a payload. -/
def u8 (p : List Byte) (i : Nat) : Byte := p.getD i 0
def u16 (p : List Byte) (i : Nat) : Half := u8 p i ++ u8 p (i + 1)
def u24 (p : List Byte) (i : Nat) : Triple := u8 p i ++ u8 p (i + 1) ++ u8 p (i + 2)
def u32 (p : List Byte) (i : Nat) : Word := u8 p i ++ u8 p (i + 1) ++ u8 p (i + 2) ++ u8 p (i + 3)

/-! The check of R159: polynomial x^16 + x^12 + x^5 + 1, from all ones, most significant bit first, no inversion. -/

def crcBit (r : Half) (b : Bool) : Half := if r.msb ^^ b then (r <<< 1) ^^^ 0x1021 else r <<< 1

def crcByte (r : Half) (b : Byte) : Half :=
  [7, 6, 5, 4, 3, 2, 1, 0].foldl (fun r i => crcBit r (b.getLsbD i)) r

def crc16 (bytes : List Byte) : Half := bytes.foldl crcByte 0xFFFF

/-- The start delimiter (R187). -/
def delimiter : Byte := 0xB3

/-- A key: class × 16 + sender station (R160). -/
def keyOf (cls : Nat) (n : Station) : Byte := BitVec.ofNat 8 (cls * 16 + n.val)

/-- The sender station of a key: its lower part (R160). -/
def keySender (key : Byte) : Station := ⟨key.toNat % 16, Nat.mod_lt _ (by decide)⟩

/-- The class of a key. -/
def keyClass (key : Byte) : Nat := key.toNat / 16

/-- A frame on the line: delimiter, key, kind, length, payload and CRC (R157, R159). -/
def frameOnLine (key kind : Byte) (payload : List Byte) : List Byte :=
  delimiter :: (key :: kind :: nat8 payload.length :: payload ++ be16 (crc16 (key :: kind :: nat8 payload.length :: payload)))

/-! The payloads of chapter 11. -/

/-- The 27 bytes of a STATE report. -/
def reportBytes (r : Report) : List Byte :=
  [axisKindCode r.axisKind, stationStateCode r.state, r.epoch, r.causes] ++ int32 r.measured ++ int32 r.velocity ++
  be16 r.flags ++ nat16 r.controlPeriod ++ [r.cueId, cueStateCode r.cueState] ++ nat24 r.cueTime ++
  nat24 r.ability ++ [stationField r.stickOwner, r.nextId, nextStateCode r.nextState]

/-- The class of a frame of this station (R160). -/
def Frame.cls : Frame → Nat
  | .halt _ => 0
  | .cue _ => 1
  | .state _ => 2
  | .reply _ => 3

/-- The kind byte of a frame (chapter 11). -/
def Frame.kindByte : Frame → Byte
  | .halt _ => 0x01
  | .cue (.go _ _) => 0x12
  | .cue (.stop _ _) => 0x13
  | .state _ => 0x01
  | .reply _ => 0x02

/-- The payload of a frame (chapter 11). -/
def Frame.payload : Frame → List Byte
  | .halt f => [stationByte f.origin, f.causes, f.epoch]
  | .cue (.go m c) => be16 m ++ [c]
  | .cue (.stop m c) => be16 m ++ [c]
  | .state r => reportBytes r
  | .reply r => [stationByte r.target, r.tag, r.kind, replyCodeByte r.code] ++ r.results

/-- The bytes on the line of the frame in flight (R157). -/
def InFlight.bytes (f : InFlight) : List Byte := frameOnLine f.key f.frame.kindByte f.frame.payload

/-- The 11 bytes of a mode block. -/
def modeBlockBytes (m : ModeFields) : List Byte :=
  [modeCode m.mode] ++ nat32 m.trimRange ++ nat16 m.fadeStep ++ nat16 m.handbackDelay ++
  [nat8 m.passes, switchCode m.cycle]

/-- The 8 bytes of a keyframe. -/
def keyframeBytes (k : Keyframe) : List Byte := nat24 k.time ++ int32 k.position ++ [shapeCode k.shape]

/-- The 11 fields of TRIGGER_ARM in its order, as TRIGGER_READ returns them. -/
def triggerBytes (t : Trigger) : List Byte :=
  [stationByte t.watched, senseCode t.sense] ++ int32 t.threshold ++ nat16 t.hysteresis ++ [t.cueId] ++ be16 t.mask

/-- The 18 bytes of COUNTERS_READ. -/
def counterBytes (c : Counters) : List Byte :=
  nat16 c.rxGood ++ nat16 c.rxBad ++ nat16 c.outDrop ++ nat16 c.reqDrop ++ nat16 c.cueMiss ++ nat16 c.stickContest ++
  nat16 c.stickGap ++ nat16 c.driveMiss ++ nat16 c.loadLapse

/-- A byte with the bits given, bit 0 first. -/
def bits8 (bs : List Bool) : Byte := BitVec.ofNat 8 (bs.foldr (fun b n => n * 2 + b.toNat) 0)

/-- The 10 bytes of a setpoint record (R189). -/
def setpointBytes (p : Setpoint) : List Byte :=
  [p.sequence] ++ int32 p.position ++ int32 p.velocity ++ [bits8 [p.enable, p.halting]]

/-- The feedback record read from its 7 bytes (R189). -/
def feedbackOf (p : List Byte) : RawFeedback :=
  { echo := u8 p 0, measured := u32 p 1, status := u8 p 5, limits := u8 p 6 }

/-- The two bits of a mark level: 0, 1, or 2 for unset (chapter 11). -/
def levelCode : Option Bool → Nat
  | some false => 0
  | some true => 1
  | none => 2

/-- Four mark levels, line MKn at bits 2n..2n+1 (chapter 11). -/
def levelsByte (l : Lines (Option Bool)) : Byte :=
  nat8 (levelCode l.mk0 + 4 * levelCode l.mk1 + 16 * levelCode l.mk2 + 64 * levelCode l.mk3)

/-- The latched pattern; 0xFF when absent (chapter 11). -/
def latchedByte : Option (Lines (Option Bool)) → Byte
  | some l => levelsByte l
  | none => 0xFF

end Sys2Proof.Machine
end

