-- ==== Sys2Proof/Decode.lean ====
section
/-! DEFINITION. decodeTableWord, over the rows of the table that give bits (none does), and the command that a burst on the
line spells (R157 to R160, R168, R187, R188). -/

namespace Sys2Proof

/-- The command a word spells by the table's bits: no row of the table gives bits. -/
def decodeTableWord (_nbits _w : Nat) : Option Instr := none

namespace Machine

/-! The frames of classes 0 to 2 (chapter 11); a length that differs from the kind's is a frame of unknown kind (R187). -/

/-- HALT and RESUME. -/
def decodeClass0 (n : Station) (kind : Byte) (p : List Byte) : Instr :=
  if kind = 0x01 ∧ p.length = 3 then .halt n (u8 p 0) (u8 p 1) (u8 p 2)
  else if kind = 0x02 ∧ p.length = 1 then .resume n (u8 p 0)
  else .unknownKind n

/-- The channels of a STICK payload past its sequence number, five bytes each. -/
def decodeChannels : Nat → List Byte → List Channel
  | k + 1, t :: d1 :: d0 :: g :: f :: rest =>
    { target := t, deflection := d1 ++ d0, gain := g, flags := f } :: decodeChannels k rest
  | _, _ => []

/-- STICK and the cue frames. -/
def decodeClass1 (n : Station) (kind : Byte) (p : List Byte) : Instr :=
  if kind = 0x01 ∧ p.length % 5 = 1 then .stick n (u8 p 0) (decodeChannels (p.length / 5) p.tail)
  else if kind = 0x10 ∧ p.length = 5 then .load n (u16 p 0) (u8 p 2) (u8 p 3) (u8 p 4)
  else if kind = 0x11 ∧ p.length = 3 then .seek n (u16 p 0) (u8 p 2)
  else if kind = 0x12 ∧ p.length = 3 then .go n (u16 p 0) (u8 p 2)
  else if kind = 0x13 ∧ p.length = 3 then .stop n (u16 p 0) (u8 p 2)
  else if kind = 0x14 ∧ p.length = 3 then .hold n (u16 p 0) (u8 p 2)
  else if kind = 0x15 ∧ p.length = 3 then .release n (u16 p 0) (u8 p 2)
  else if kind = 0x16 ∧ p.length = 3 then .loopEnd n (u16 p 0) (u8 p 2)
  else if kind = 0x17 ∧ p.length = 4 then .recStart n (u16 p 0) (u8 p 2) (u8 p 3)
  else if kind = 0x18 ∧ p.length = 2 then .recStop n (u16 p 0)
  else .unknownKind n

/-- The fields of a STATE payload at their offsets. -/
def decodeReport (p : List Byte) : RawReport :=
  { axisKind := u8 p 0, state := u8 p 1, epoch := u8 p 2, causes := u8 p 3, measured := u32 p 4, velocity := u32 p 8,
    flags := u16 p 12, controlPeriod := u16 p 14, cueId := u8 p 16, cueState := u8 p 17, cueTime := u24 p 18,
    ability := u24 p 21, stickOwner := u8 p 24, nextId := u8 p 25, nextState := u8 p 26 }

/-- STATE. -/
def decodeClass2 (n : Station) (kind : Byte) (p : List Byte) (haltFirst : Bool) : Instr :=
  if kind = 0x01 ∧ p.length = 27 then .state n (decodeReport p) haltFirst else .unknownKind n

/-! The arguments of the requests, at their offsets (chapter 11). -/

/-- Arguments of a fixed length (R188). -/
def sized {α : Type} (a : List Byte) (n : Nat) (fields : α) : Sized α :=
  if a.length = n then .fields fields else .wrongLength

def decodeModeBlock (p : List Byte) (o : Nat) : RawModeBlock :=
  { mode := u8 p o, trimRange := u32 p (o + 1), fadeStep := u16 p (o + 5), handbackDelay := u16 p (o + 7),
    passes := u8 p (o + 9), cycle := u8 p (o + 10) }

def decodeKeyframe (p : List Byte) (o : Nat) : RawKeyframe :=
  { time := u24 p o, position := u32 p (o + 3), shape := u8 p (o + 7) }

def decodeSection1 (p : List Byte) : RawSection1 :=
  { axisKind := u8 p 1, controlPeriod := u16 p 2, vmax := u32 p 4, amax := u32 p 8, aHalt := u32 p 12, lo := u32 p 16,
    hi := u32 p 20, startWindow := u16 p 24, catchStep := u16 p 26, vseek := u32 p 28, vstick := u32 p 32,
    deadband := u16 p 36, expo := u16 p 38, takeThreshold := u16 p 40 }

def decodeSection2 (p : List Byte) : RawSection2 :=
  { feLimit := u32 p 1, feCount := u8 p 5, guardFactor := u16 p 6, windowSize := u16 p 8, badThreshold := u16 p 10,
    couplingSource := u8 p 12, r0 := u32 p 13, k := u32 p 17, lmax := u32 p 21, markMode := u8 p 25,
    markMask := u8 p 26, markPattern := u8 p 27, markAction := u8 p 28, goMask := u16 p 29 }

/-- START_RECORD_WRITE by its section byte (R178, R188). -/
def decodeStartWrite (h : ReqHeader) (a : List Byte) : Instr :=
  if a = [] then .startRecordWriteSection1 h .wrongLength
  else if u8 a 0 = 1 then
    .startRecordWriteSection1 h (if a.length = 42 then .fields (decodeSection1 a) else .wrongLength)
  else if u8 a 0 = 2 then .startRecordWriteSection2 h (sized a 31 (decodeSection2 a))
  else .startRecordWriteSection1 h (.badSection (u8 a 0))

/-- STATUS_READ: a station byte 0..15 other than the own names a peer (R142, R188). -/
def decodeStatusRead (own : Station) (h : ReqHeader) (a : List Byte) : Instr :=
  if a = [] then .statusRead h (.fields none)
  else if a.length = 1 then
    match stationOf (u8 a 0) with
    | some n => if n = own then .statusRead h (.fields (some (u8 a 0))) else .statusReadPeer h n
    | none => .statusRead h (.fields (some (u8 a 0)))
  else .statusRead h .wrongLength

/-- KEYFRAME_WRITE: 4 + 8 × the carried count (R188). -/
def decodeKeyframeWrite (h : ReqHeader) (a : List Byte) : Instr :=
  .keyframeWrite h
    (if 4 ≤ a.length ∧ a.length = 4 + 8 * (u8 a 3).toNat then
      .fields { preset := u8 a 0, start := u16 a 1,
                keyframes := (List.range (u8 a 3).toNat).map fun i => decodeKeyframe a (4 + 8 * i) }
     else .wrongLength)

/-- A service request by its kind byte, as station `own` takes it; `straps` are the levels a RESTART reads. -/
def decodeRequest (own straps : Station) (h : ReqHeader) (kind : Byte) (a : List Byte) : Instr :=
  if kind = 0x01 then .ident h (sized a 0 ())
  else if kind = 0x02 then decodeStartWrite h a
  else if kind = 0x03 then .restart h (sized a 0 ()) straps
  else if kind = 0x04 then decodeStatusRead own h a
  else if kind = 0x05 then .countersRead h (sized a 1 (u8 a 0))
  else if kind = 0x10 then
    .presetOpen h (sized a 14 { preset := u8 a 0, count := u16 a 1, fields := decodeModeBlock a 3 })
  else if kind = 0x11 then decodeKeyframeWrite h a
  else if kind = 0x12 then .presetClose h (sized a 1 (u8 a 0))
  else if kind = 0x13 then .presetErase h (sized a 1 (u8 a 0))
  else if kind = 0x14 then .presetEdit h (sized a 12 { preset := u8 a 0, fields := decodeModeBlock a 1 })
  else if kind = 0x15 then .directoryRead h (sized a 1 (u8 a 0))
  else if kind = 0x16 then .keyframeRead h (sized a 3 { preset := u8 a 0, index := u16 a 1 })
  else if kind = 0x17 then .poolCompact h (sized a 0 ())
  else if kind = 0x20 then
    .triggerArm h (sized a 11 { watched := u8 a 0, sense := u8 a 1, threshold := u32 a 2, hysteresis := u16 a 6,
                                cueId := u8 a 8, mask := u16 a 9 })
  else if kind = 0x21 then .triggerDisarm h (sized a 0 ())
  else if kind = 0x22 then .triggerRead h (sized a 0 ())
  else .unknownRequestKind h kind

/-- The class 3 frames: a request shorter than three bytes names no target and is discarded, as is a reply. -/
def decodeClass3 (own straps n : Station) (kind : Byte) (p : List Byte) : Instr :=
  if kind = 0x01 then
    if p.length < 3 then .unknownKind n
    else decodeRequest own straps { sender := n, target := u8 p 0, tag := u8 p 1 } (u8 p 2) (p.drop 3)
  else if kind = 0x02 then .serviceReply n
  else .unknownKind n

/-- A good arrival's command, by the class and kind of its header (R168). -/
def decodeFrame (own straps : Station) (haltFirst : Bool) (key kind : Byte) (p : List Byte) : Instr :=
  match keyClass key with
  | 0 => decodeClass0 (keySender key) kind p
  | 1 => decodeClass1 (keySender key) kind p
  | 2 => decodeClass2 (keySender key) kind p haltFirst
  | 3 => decodeClass3 own straps (keySender key) kind p
  | _ => .unknownKind (keySender key)

/-- The receive checker's test of a burst past its delimiter: length 64 or less, the burst ending exactly after
length + 6 bytes, and the CRC received equal to the CRC computed (R158, R159). -/
def burstGood (key kind len : Byte) (rest : List Byte) : Bool :=
  len ≤ 64 && rest.length = len.toNat + 2 &&
  u16 (rest.drop len.toNat) 0 = crc16 (key :: kind :: len :: rest.take len.toNat)

/-- The command a burst on the line spells at station `own` (R158, R168): a bad arrival, or the frame's row. The order of
R100 and the levels a RESTART would read are told beside the burst (log 10, log 13). -/
def decodeArrival (own straps : Station) (haltFirst : Bool) (burst : List Byte) : Instr :=
  match burst with
  | d :: key :: kind :: len :: rest =>
    if d = delimiter ∧ burstGood key kind len rest then
      decodeFrame own straps haltFirst key kind (rest.take len.toNat)
    else .badArrival
  | _ => .badArrival

end Machine

end Sys2Proof
end

