-- ==== Sys2Proof/Machine/StoreOps.lean ====
section
/-! DEFINITION. The preset store's shared operations: ranges and their freeing (R2 to R4), references (R6), the checks of a
close (R9), recording (R12 to R15), compaction (R21) and the range check of a new start record (R23). -/

namespace Sys2Proof.Machine

/-- The preset numbers, in ascending order. -/
def presets : List Preset := List.finRange 32

def Store.entry (st : Store) (p : Preset) : DirEntry := st.directory[p]

def Store.setEntry (st : Store) (p : Preset) (e : DirEntry) : Store :=
  { st with directory := st.directory.set p e }

/-- The entry owns a range of the pool (R2). -/
def DirEntry.owns (e : DirEntry) : Bool := e.state ≠ .empty

/-- The end, first + count, of the highest range owned, 0 when none is (R4). -/
def topOf (d : Vector DirEntry 32) : Nat :=
  (d.toList.map fun e => if e.owns then e.first + e.count else 0).foldl max 0

/-- The keyframes held by non-EMPTY entries (R18). -/
def Store.held (st : Store) : Nat := (st.directory.toList.map fun e => if e.owns then e.count else 0).sum

/-- Freeing the range of an entry (R4). The freed indices list nothing from then on (log 15). -/
def Store.free (st : Store) (p : Preset) : Store :=
  { st with
    directory := st.directory.set p DirEntry.empty
    pool := st.pool.freeRange (st.entry p).first (st.entry p).count
    hwm := if (st.entry p).first + (st.entry p).count = st.hwm then topOf (st.directory.set p DirEntry.empty)
           else st.hwm }

/-- The old content of a READY preset is freed before a new range is placed (R7, R12). -/
def Store.freeIfReady (st : Store) (p : Preset) : Store :=
  if (st.entry p).state = .ready then st.free p else st

/-- The keyframes of a preset's range (R2). -/
def Store.keyframes (st : Store) (p : Preset) : List Keyframe :=
  st.pool.range (st.entry p).first (st.entry p).count

/-- P0·65536, the position of keyframe 0 of a preset in fu (R25, R59). -/
def Store.startPosition (st : Store) (p : Preset) : Int := fu (st.pool.read (st.entry p).first).position

/-- A preset is referenced by a cue slot (R6). -/
def State.referenced (s : State) (p : Preset) : Bool :=
  (s.next.state ≠ .empty && s.next.preset = p) || (s.running.state ≠ .idle && s.running.preset = p)

/-! The checks of PRESET_CLOSE, R9. -/

/-- The lowest index whose time is not greater than its predecessor's; `i` is the index of the head. -/
def firstNotRising : List Keyframe → Nat → Option Nat
  | a :: b :: rest, i => if b.time ≤ a.time then some (i + 1) else firstNotRising (b :: rest) (i + 1)
  | _, _ => none

/-- The lowest index whose position lies outside [lo, hi]; `i` is the index of the head. -/
def firstOutside (lo hi : Int) : List Keyframe → Nat → Option Nat
  | [], _ => none
  | k :: rest, i => if k.position < lo ∨ hi < k.position then some i else firstOutside lo hi rest (i + 1)

/-- The first failing check of R9 and the index it reports, for a range reserved for `count` keyframes of which
`nextIndex` are written. -/
def closeFailure (lo hi : Int) (count nextIndex : Nat) (ks : List Keyframe) : Option (Nat × Nat) :=
  if nextIndex ≠ count then some (1, nextIndex)
  else if (ks.headD Keyframe.blank).time ≠ 0 then some (2, 0)
  else match firstNotRising ks 0 with
    | some i => some (3, i)
    | none =>
      match firstOutside lo hi ks 0 with
      | some i => some (4, i)
      | none => none

/-! The range check of a new start record, R23. -/

/-- One READY entry with a position outside [lo, hi] has its range freed. -/
def Store.checkEntry (lo hi : Int) (st : Store) (p : Preset) : Store :=
  if (st.entry p).state = .ready ∧ (firstOutside lo hi (st.keyframes p) 0).isSome then st.free p else st

/-- The check of every READY entry, in ascending preset number. -/
def Store.checkRanges (lo hi : Int) (st : Store) : Store := presets.foldl (Store.checkEntry lo hi) st

/-! Compaction, R21. -/

/-- Where a range begins once every lower range has been moved down to lie end to end from index 0. -/
def Store.movedFirst (st : Store) (p : Preset) : Nat :=
  (st.directory.toList.map fun e => if e.owns ∧ e.first < (st.entry p).first then e.count else 0).sum

/-- The pool with every owned range at its new place. -/
def Store.movedPool (st : Store) : Pool :=
  presets.foldl
    (fun pool p => if (st.entry p).owns then pool.writeAll (st.movedFirst p) (st.keyframes p) else pool) []

/-- The moved entry of each preset. -/
def Store.movedDirectory (st : Store) : Vector DirEntry 32 :=
  Vector.ofFn fun p => if (st.entry p).owns then { st.entry p with first := st.movedFirst p } else st.entry p

/-- The ranges moved to lie end to end from 0, HWM the sum of the counts, COMPACTING clear. -/
def Store.compacted (st : Store) : Store :=
  { st with directory := st.movedDirectory, pool := st.movedPool, hwm := st.held, compacting := false }

/-! Recording, R12 to R15. -/

/-- The setpoint as a recorded keyframe of time t: rounded to au and clamped into [lo, hi], shape LINEAR (R12, R13). -/
def State.capturedKeyframe (s : State) (t : Nat) : Keyframe :=
  { time := t, position := clamp (roundAu s.blend.x) s.record.lo s.record.hi, shape := .linear }

/-- A recording starts (R12). -/
def State.startRecording (p : Preset) (interval : Nat) (s : State) : State :=
  let st := s.store.freeIfReady p
  s.setStore
    { st with
      directory := st.directory.set p
        { state := .recording, first := st.hwm, count := 1, fields := ModeFields.initial, truncated := false }
      pool := st.pool.write st.hwm (s.capturedKeyframe 0)
      hwm := st.hwm + 1
      recording := some { preset := p, interval := interval, elapsed := 0, lastCapture := 0 } }

/-- A keyframe of time t is captured at HWM (R13, R15). -/
def State.capture (r : Recording) (t : Nat) (s : State) : State :=
  s.setStore
    { s.store with
      directory := s.store.directory.set r.preset
        { s.store.entry r.preset with count := (s.store.entry r.preset).count + 1 }
      pool := s.store.pool.write s.store.hwm (s.capturedKeyframe t)
      hwm := s.store.hwm + 1
      recording := some { r with lastCapture := t } }

/-- Steps 2 to 4 of R15: the entry becomes READY, or, below two keyframes, the outcome is TOO_SHORT. -/
def State.closeRecording (r : Recording) (truncated : Bool) (s : State) : State :=
  if 2 ≤ (s.store.entry r.preset).count then
    s.setStore
      { s.store with
        directory := s.store.directory.set r.preset
          { s.store.entry r.preset with state := .ready, truncated := truncated }
        recording := none }
  else (s.setStore { s.store.free r.preset with recording := none }).countMiss

/-- The end of a recording in progress, with its final keyframe (R15); no effect where none runs. -/
def State.endRecording (s : State) : State :=
  match s.store.recording with
  | none => s
  | some r =>
    if r.elapsed ≠ r.lastCapture ∧ s.store.hwm < 1024 then (s.capture r r.elapsed).closeRecording r false
    else s.closeRecording r false

/-- The work of a recording at an expiry, after the blend: the limits of R14, then the capture of R13. -/
def State.recordExpiry (s : State) : State :=
  match s.store.recording with
  | none => s
  | some r =>
    let due := (r.elapsed + 1) % r.interval = 0
    if r.elapsed + 1 = 16777216 ∨ (due ∧ 1024 ≤ s.store.hwm) then s.closeRecording r true
    else if due then s.capture { r with elapsed := r.elapsed + 1 } (r.elapsed + 1)
    else s.setStore { s.store with recording := some { r with elapsed := r.elapsed + 1 } }

/-! The download. -/

/-- An open download is discarded: its range is freed and the context cleared (R10, R24). -/
def Store.discardDownload (st : Store) : Store :=
  match st.download with
  | none => st
  | some d => { st.free d.preset with download := none }

/-- The lapse count at an expiry; at 2000 the download is discarded and LOAD_LAPSE increments (R10). -/
def State.downloadExpiry (s : State) : State :=
  match s.store.download with
  | none => s
  | some d =>
    if 2000 ≤ d.lapse + 1 then (s.setStore s.store.discardDownload).countLoadLapse
    else s.setStore { s.store with download := some { d with lapse := d.lapse + 1 } }

end Sys2Proof.Machine
end

