-- ==== Sys2Proof/Machine/CueOps.lean ====
section
/-! DEFINITION. The cue engine's shared operations: start, catch-in, end of a pass, idling (R36 to R38, R45 to R47, R53). -/

namespace Sys2Proof.Machine

/-- The setpoint lies outside the start window around the preset's first position (R37, R46). -/
def State.outsideWindow (s : State) (p : Preset) : Bool :=
  s.record.startWindow * 65536 < (s.blend.x - s.store.startPosition p).natAbs

/-- The RUNNING slot becomes IDLE with the values of R26, and the take target returns to 0 (R55). -/
def State.idleCue (s : State) : State :=
  (s.setRunning RunningSlot.idle).setBlend { s.blend with taking := false }

/-- The RUNNING slot of a cue that starts (R36, R37). -/
def State.startedSlot (s : State) (participants : StationMask) : RunningSlot :=
  let p := s.next.preset
  let f := (s.store.entry p).fields
  { state := .playing, preset := p, cueId := s.next.cueId, mode := f.mode, trimRange := f.trimRange,
    fadeStep := f.fadeStep, handbackDelay := f.handbackDelay, cycle := f.cycle, participants := participants,
    seen := 0, passesLeft := f.passes, cueTime := 0, freshStart := true, paceEff := 0, ability := 65536,
    peerLost := false, takeWeight := 0, shadow := s.store.startPosition p, handback := 0, trimOffset := 0,
    catchWeight := if s.outsideWindow p then 4096 else 0,
    catchOrigin := if s.outsideWindow p then s.blend.x else 0 }

/-- The NEXT cue starts, by GO or by FOLLOW; a cue that plays is cut (R36 to R38, R55). -/
def State.startCue (participants : StationMask) (s : State) : State :=
  ((s.setRunning (s.startedSlot participants)).setNext NextSlot.empty).setBlend { s.blend with taking := false }

/-- The pass restarts (R46). x_hold keeps its value when no catch-in begins. -/
def State.restartPass (s : State) : State :=
  let run := s.running
  let away := s.outsideWindow run.preset
  s.setRunning
    { run with
      passesLeft := if run.cycle then max 1 (run.passesLeft - 1) else run.passesLeft - 1
      cueTime := 0
      freshStart := true
      catchWeight := if away then 4096 else 0
      catchOrigin := if away then s.blend.x else run.catchOrigin }

/-- The cue ends; a FOLLOW cue waiting in NEXT starts with its participant mask (R47). -/
def State.endCue (s : State) : State :=
  if s.next.state = .loaded ∧ s.next.condition = .follow then s.idleCue.startCue s.running.participants
  else s.idleCue

/-- T stands at t_last·65536 (R45). -/
def State.atPassEnd (s : State) : Bool :=
  s.running.state ≠ .idle &&
  s.running.cueTime = ((s.store.keyframes s.running.preset).getLastD Keyframe.blank).time * 65536

/-- What the end of a pass brings: another pass, or the end of the cue (R46, R47). -/
def State.endPass (s : State) : State :=
  if s.running.cycle ∨ 1 < s.running.passesLeft then s.restartPass else s.endCue

/-- A SEEKING or READY cue returns to LOADED (R34, R53). -/
def NextSlot.backToLoaded (n : NextSlot) : NextSlot :=
  if n.state = .seeking ∨ n.state = .ready then { n with state := .loaded } else n

/-- The carried id names the cue, 255 naming any (R39 to R42). -/
def RunningSlot.named (r : RunningSlot) (cueId : Byte) : Bool :=
  r.state ≠ .idle && (cueId = 255 || r.cueId = cueId)

/-! What each cue frame does at a station of its mask; a miss counts CUE_MISS and changes nothing else (R29). -/

/-- LOAD (R31). -/
def State.actLoad (cueId preset condition : Byte) (s : State) : State :=
  match presetOf preset, startConditionOf condition with
  | some p, some cond =>
    if s.halt.station ≠ .config ∧ ¬ s.store.compacting ∧ (s.store.entry p).state = .ready ∧ cueId ≠ 255 then
      s.setNext { state := .loaded, preset := p, cueId := cueId, condition := cond }
    else s.countMiss
  | _, _ => s.countMiss

/-- SEEK (R32). -/
def State.actSeek (cueId : Byte) (s : State) : State :=
  if s.halt.station = .run ∧ s.running.state = .idle ∧ s.next.state ≠ .empty ∧ s.next.cueId = cueId ∧ cueId ≠ 255 then
    if s.next.state = .loaded then s.setNext { s.next with state := .seeking } else s
  else s.countMiss

/-- GO (R35 to R38). -/
def State.actGo (mask : StationMask) (cueId : Byte) (s : State) : State :=
  if s.halt.station = .run ∧ s.next.state ≠ .empty ∧ s.next.cueId = cueId ∧ cueId ≠ 255 then s.startCue mask
  else s.countMiss

/-- STOP (R39). -/
def State.actStop (cueId : Byte) (s : State) : State :=
  if s.halt.station = .run ∧ s.running.named cueId then s.idleCue else s.countMiss

/-- HOLD (R40). -/
def State.actHold (cueId : Byte) (s : State) : State :=
  if s.halt.station = .run ∧ s.running.named cueId then s.setRunning { s.running with state := .held } else s.countMiss

/-- RELEASE (R41). -/
def State.actRelease (cueId : Byte) (s : State) : State :=
  if s.halt.station = .run ∧ s.running.named cueId then s.setRunning { s.running with state := .playing }
  else s.countMiss

/-- LOOP_END (R42). -/
def State.actLoopEnd (cueId : Byte) (s : State) : State :=
  if s.halt.station = .run ∧ s.running.named cueId then
    s.setRunning { s.running with cycle := false, passesLeft := 1 }
  else s.countMiss

/-- REC_START (R11, R12). -/
def State.actRecStart (preset interval : Byte) (s : State) : State :=
  match presetOf preset with
  | some p =>
    if 1 ≤ interval.toNat ∧ s.halt.station = .run ∧ s.store.download.isNone ∧ s.store.recording.isNone ∧
        ¬ s.store.compacting ∧ ¬ s.referenced p ∧ s.store.hwm + 2 ≤ 1024 then
      s.startRecording p interval.toNat
    else s.countMiss
  | none => s.countMiss

/-- REC_STOP (R15). -/
def State.actRecStop (s : State) : State :=
  if s.halt.station = .run ∧ s.store.recording.isSome then s.endRecording else s.countMiss

/-- A cue frame acts at a station in its mask; a station outside it ignores it (R29). -/
def State.inMask (mask : StationMask) (act : State → State) (s : State) : State :=
  if maskHas mask s.own then act s else s

end Sys2Proof.Machine
end

