-- ==== Sys2Proof/Machine/HaltOps.lean ====
section
/-! DEFINITION. Halt control's shared operations and the placing of frames in the outbound list: entry to HALTING (R132),
a raised cause (R128, R129), halts from outside (R130, R131), the STATE report (R167) and the outbound list (R164). -/

namespace Sys2Proof.Machine

/-! The outbound list, R164. -/

/-- A HALT frame replaces one pending in the slot. -/
def State.placeHalt (f : HaltFrame) (s : State) : State := s.setLink { s.link with haltSlot := some f }

/-- A cue frame goes to the tail of the list, or is dropped and counted when the list holds four. -/
def State.placeCue (f : CueFrame) (s : State) : State :=
  if s.link.cueList.length < 4 then s.setLink { s.link with cueList := s.link.cueList ++ [f] } else s.countOutDrop

/-- A report replaces one pending in the slot. -/
def State.placeState (r : Report) (s : State) : State := s.setLink { s.link with stateSlot := some r }

/-- A reply is placed in the reply slot (R172). -/
def State.placeReply (r : Reply) (s : State) : State := s.setLink { s.link with replySlot := some r }

/-- The STATE report with every field as its owner holds it at this moment (R28, R167). -/
def State.makeReport (s : State) : Report :=
  { axisKind := s.start.record.map fun r => r.axisKind
    state := s.halt.station
    epoch := s.halt.epoch
    causes := s.halt.causes
    measured := s.port.measured
    velocity := if s.halt.station = .config then 0 else s.blend.v
    flags := s.reportFlags
    controlPeriod := match s.start.record with
      | some r => r.controlPeriod
      | none => 0
    cueId := s.running.cueId
    cueState := s.running.state
    cueTime := s.running.cueTime / 65536
    ability := s.running.ability
    stickOwner := s.stick.owner
    nextId := s.next.cueId
    nextState := s.next.state }

/-! Leaving RUN. -/

/-- Entry to HALTING and what each block does at it (R132): the cue is aborted and a seek returns to LOADED (R53), the take
target returns to 0 (R79), a recording ends (R15), the trigger is disarmed (R119). -/
def State.enterHalting (s : State) : State :=
  let s := s.endRecording
  let s := s.setHalt { s.halt with station := .halting }
  let s := s.idleCue
  let s := s.setNext s.next.backToLoaded
  s.setTrigger { s.trigger with state := .disarmed }

/-- A cause is added to the latched causes. -/
def State.latch (c : Causes) (s : State) : State := s.setHalt { s.halt with causes := s.halt.causes ||| c }

/-- The halt record is written (R127). -/
def State.recordHalt (origin : Station) (entry originCauses : Causes) (s : State) : State :=
  s.setHalt
    { s.halt with
      record := some { origin := origin, entryCauses := entry, originCauses := originCauses, entryEpoch := s.halt.epoch } }

/-- The local causes raised at one event at a station in RUN (R129). -/
def State.localFault (c : Causes) (s : State) : State :=
  (((s.latch c).recordHalt s.own c c).enterHalting).placeHalt { origin := s.own, causes := c, epoch := s.halt.epoch }

/-- The local causes raised at one event, by the station state (R128): a local fault in RUN, latched in HALTING and
HALTED, and in CONFIG only NUMBER_CLASH latched. -/
def State.raise (c : Causes) (s : State) : State :=
  if c = 0 then s
  else match s.halt.station with
    | .run => s.localFault c
    | .halting => s.latch c
    | .halted => s.latch c
    | .config => s.latch (c &&& causeNumberClash)

/-- A halt that comes from outside, by frame or by report (R130, R131): it takes a station in RUN to HALTING with its
halt record and no HALT frame, and is only latched at a station that halts already. -/
def State.haltFromOutside (c : Causes) (origin : Station) (originCauses : Causes) (s : State) : State :=
  match s.halt.station with
  | .run => ((s.latch c).recordHalt origin c originCauses).enterHalting
  | .halting => s.latch c
  | .halted => s.latch c
  | .config => s

/-! The position trigger's evaluation, R115 to R117. -/

/-- The position stands clear of the threshold on the near side, beyond the hysteresis (R116). -/
def Trigger.near (t : Trigger) (p : Int) : Bool :=
  match t.sense with
  | .rising => p < t.threshold - t.hysteresis
  | .falling => t.threshold + t.hysteresis < p

/-- The position has reached the threshold (R116). -/
def Trigger.crossed (t : Trigger) (p : Int) : Bool :=
  match t.sense with
  | .rising => t.threshold ≤ p
  | .falling => p ≤ t.threshold

/-- One evaluation of a report of the watched station: one step (R115, R116, R117). -/
def State.evaluateTrigger (reported : StationState) (p : Int) (s : State) : State :=
  if s.halt.station = .run ∧ reported ≠ .config then
    match s.trigger.state with
    | .disarmed => s
    | .arming => if s.trigger.near p then s.setTrigger { s.trigger with state := .armed } else s
    | .armed =>
      if s.trigger.crossed p then
        (s.placeCue (.go s.trigger.mask s.trigger.cueId)).setTrigger { s.trigger with state := .disarmed }
      else s
  else s

end Sys2Proof.Machine
end

