-- ==== Sys2Proof/Machine/LinkOps.lean ====
section
/-! DEFINITION. The receiving side of the link interface: what every arrival does before its own effect (R105, R158, R168,
R170) and the path of a service request to its owner and of the reply back (R172, R188). -/

namespace Sys2Proof.Machine

/-- The receive checker judges nothing while the station drives the line (R158), and the part does nothing while RSTN is
held low (R185, log 5). -/
def State.deaf (s : State) : Bool := !s.pins.rstn || s.link.inFlight.isSome

/-- The error window after one more arrival (R170). -/
def Link.windowStep (bad : Bool) (frozen : Bool) (n b : Nat) (l : Link) : Link :=
  let count := satAdd 65535 l.arrivals 1
  let badCount := satAdd 65535 l.badArrivals bad.toNat
  if frozen ∧ n ≤ count then { l with arrivals := 0, badArrivals := 0, linkPoor := b ≤ badCount }
  else { l with arrivals := count, badArrivals := badCount }

/-- The offer of a running window withdrawn (R161, R162). -/
def Link.withdrawn (l : Link) : Link := { l with offer := none }

/-- An arrival judged good or bad: its traffic counter (R158) and the error window (R170). It is activity on the line, so
the offer of a window that runs is withdrawn (R161, log 11). -/
def State.countArrival (bad : Bool) (s : State) : State :=
  let s := s.mapCounters fun c =>
    if bad then { c with rxBad := satAdd 65535 c.rxBad 1 } else { c with rxGood := satAdd 65535 c.rxGood 1 }
  s.setLink (s.link.windowStep bad s.frozen s.record.windowSize s.record.badThreshold).withdrawn

/-- A good arrival: not judged where the part is deaf to it, and otherwise counted, put to the number test, and dispatched
to the block that takes it (R105, R168). -/
def State.arriveUnless (deaf : Bool) (sender : Station) (act : State → State) (s : State) : State :=
  if deaf then s
  else if sender = s.own then (s.countArrival false).raise causeNumberClash
  else act (s.countArrival false)

/-- A good arrival of every row but RESTART (R158, R168). -/
def State.arrive (sender : Station) (act : State → State) (s : State) : State := s.arriveUnless s.deaf sender act

/-- What an owner answers: the state it leaves, the reply code and the results (R172). -/
structure Answer where
  after : State
  code : ReplyCode
  results : List Byte

/-- A refusal, or an outcome with no results: nothing but the code. -/
def State.answer (s : State) (code : ReplyCode) : Answer := { after := s, code := code, results := [] }

/-- DONE, with results. -/
def State.done (s : State) (results : List Byte) : Answer := { after := s, code := .done, results := results }

/-- Step 4 of R172 with the length test of R188: a length the kind does not require is answered BAD_REQUEST. -/
def State.withArgs {α : Type} (args : Sized α) (owner : α → State → Answer) (s : State) : Answer :=
  match args with
  | .wrongLength => s.answer .badRequest
  | .fields a => owner a s

/-- The reply of an answer, in the reply slot (R172). -/
def Answer.reply (a : Answer) (header : ReqHeader) (kind : Byte) : State :=
  a.after.placeReply
    { target := header.sender, tag := header.tag, kind := kind, code := a.code, results := a.results }

/-- The steps of R172: ignored for another target, dropped at an occupied reply slot, and otherwise decided by its owner
and answered at this same arrival. -/
def State.takeRequest (header : ReqHeader) (kind : Byte) (owner : State → Answer) (s : State) : State :=
  if header.target ≠ stationByte s.own then s
  else if s.link.replySlot.isSome then s.countReqDrop
  else (owner s).reply header kind

/-- A service request as it arrives (R168, R172). -/
def State.request (header : ReqHeader) (kind : Byte) (owner : State → Answer) (s : State) : State :=
  s.arrive header.sender (State.takeRequest header kind owner)

end Sys2Proof.Machine
end

