-- ==== Sys2Proof/Machine/CueFrames.lean ====
section
/-! DEFINITION. The cue frames as they arrive (R29, R168): each is counted, put to the number test, and acts at a station of
its mask by the rule of its kind. -/

namespace Sys2Proof.Machine

/-- LOAD (R31). -/
def execLoad (sender : Station) (mask : StationMask) (cueId preset condition : Byte) (s : State) :
    Host.Outcome State Fault Refusal :=
  .next (s.arrive sender (State.inMask mask (State.actLoad cueId preset condition)))

/-- SEEK (R32). -/
def execSeek (sender : Station) (mask : StationMask) (cueId : Byte) (s : State) : Host.Outcome State Fault Refusal :=
  .next (s.arrive sender (State.inMask mask (State.actSeek cueId)))

/-- GO (R35); its mask is also the participant mask. -/
def execGo (sender : Station) (mask : StationMask) (cueId : Byte) (s : State) : Host.Outcome State Fault Refusal :=
  .next (s.arrive sender (State.inMask mask (State.actGo mask cueId)))

/-- STOP (R39). -/
def execStop (sender : Station) (mask : StationMask) (cueId : Byte) (s : State) : Host.Outcome State Fault Refusal :=
  .next (s.arrive sender (State.inMask mask (State.actStop cueId)))

/-- HOLD (R40). -/
def execHold (sender : Station) (mask : StationMask) (cueId : Byte) (s : State) : Host.Outcome State Fault Refusal :=
  .next (s.arrive sender (State.inMask mask (State.actHold cueId)))

/-- RELEASE (R41). -/
def execRelease (sender : Station) (mask : StationMask) (cueId : Byte) (s : State) : Host.Outcome State Fault Refusal :=
  .next (s.arrive sender (State.inMask mask (State.actRelease cueId)))

/-- LOOP_END (R42). -/
def execLoopEnd (sender : Station) (mask : StationMask) (cueId : Byte) (s : State) : Host.Outcome State Fault Refusal :=
  .next (s.arrive sender (State.inMask mask (State.actLoopEnd cueId)))

/-- REC_START (R11). -/
def execRecStart (sender : Station) (mask : StationMask) (preset interval : Byte) (s : State) :
    Host.Outcome State Fault Refusal :=
  .next (s.arrive sender (State.inMask mask (State.actRecStart preset interval)))

/-- REC_STOP (R15). -/
def execRecStop (sender : Station) (mask : StationMask) (s : State) : Host.Outcome State Fault Refusal :=
  .next (s.arrive sender (State.inMask mask State.actRecStop))

end Sys2Proof.Machine
end

