-- ==== Sys2Proof/Machine/Blend.lean ====
section
/-! DEFINITION. The blend and limit stage: the preset position (R57 to R59), the mode targets (R60 to R66), catch-in (R67),
the limits (R68 to R74) and the stage's work in HALTING and HALTED (R76, R77). -/

namespace Sys2Proof.Machine

/-! Stage A, the preset position. -/

/-- The shaped fraction s of the fraction u (R58). -/
def shaped : Shape → Nat → Nat
  | .linear, u => u
  | .ease, u => (3 * u ^ 2 * 65536 - 2 * u ^ 3) / 2 ^ 32
  | .hold, _ => 0

/-- The position in the segment from keyframe a to keyframe b (R57, R58). -/
def segmentPosition (a b : Keyframe) (t : Nat) : Int :=
  fu a.position + (b.position - a.position) * (shaped a.shape ((t - a.time * 65536) / (b.time - a.time)) : Nat)

/-- P(T): the segment's position, or, from the last keyframe's time on, the last position (R57). -/
def presetPosition : List Keyframe → Nat → Int
  | [], _ => 0
  | [k], _ => fu k.position
  | a :: b :: rest, t => if t < b.time * 65536 then segmentPosition a b t else presetPosition (b :: rest) t

/-! The supply of stick intake, R91 and R92. -/

/-- The magnitude of the shaped velocity for a deflection of magnitude m (R92). -/
def shapedRate (r : StartRecord) (gain m : Nat) : Nat :=
  if m ≤ r.deadband then 0
  else
    let m' := (m - r.deadband) * 32767 / (32767 - r.deadband)
    let e := (r.expo * (m' ^ 3 / 32767 ^ 2) + (256 - r.expo) * m') / 256
    e * gain * r.vstick / (32767 * 255)

/-- The stick velocity v_s: the sign is applied after the floor (R92). -/
def stickVelocity (r : StartRecord) (gain : Nat) (d : Int) : Int := d.sign * (shapedRate r gain d.natAbs : Nat)

/-- What stick intake supplies at an expiry: deflection, stick velocity, and whether the stick is live (R64, R91). -/
structure Supply where
  d : Int
  v : Int
  live : Bool
  deriving DecidableEq, Repr

/-- The supply, from the phase as it stands before the ageing of this expiry (R88, R91). -/
def State.stickSupply (s : State) : Supply :=
  if s.stick.owner.isSome ∧ s.stick.phase ≠ .zero then
    { d := s.stick.deflection, v := stickVelocity s.record s.stick.gain s.stick.deflection, live := true }
  else { d := 0, v := 0, live := false }

/-! Stage C, the base. -/

/-- The source of the target (R27). -/
inductive Source where
  | cue | seek | manual
  deriving DecidableEq, Repr

def State.source (s : State) : Source :=
  if s.running.state ≠ .idle then .cue
  else if s.next.state = .seeking ∨ s.next.state = .ready then .seek
  else .manual

/-- The trim offset of a TRIM cue (R62). -/
def trimStep (sup : Supply) (run : RunningSlot) : RunningSlot :=
  { run with trimOffset := clamp (run.trimOffset + sup.v) (-fu run.trimRange) (fu run.trimRange) }

/-- The handback count of a TAKE cue (R63). -/
def handbackStep (r : StartRecord) (sup : Supply) (run : RunningSlot) : Nat :=
  if r.takeThreshold < sup.d.natAbs then 0
  else if r.deadband < sup.d.natAbs then run.handback
  else satAdd 65535 run.handback 1

/-- The take target of a TAKE cue, true for 4096 (R63). -/
def takingStep (r : StartRecord) (sup : Supply) (run : RunningSlot) (taking : Bool) : Bool :=
  if r.takeThreshold < sup.d.natAbs then true
  else if r.deadband < sup.d.natAbs then taking
  else if run.handbackDelay ≠ 65535 ∧ run.handbackDelay ≤ handbackStep r sup run then false
  else taking

/-- The take weight, one step toward the take target (R64). -/
def weightStep (sup : Supply) (taking : Bool) (run : RunningSlot) : Nat :=
  if taking then (if sup.live then min (run.takeWeight + run.fadeStep) 4096 else run.takeWeight)
  else run.takeWeight - run.fadeStep

/-- The shadow position after the weight's step (R65). -/
def shadowStep (r : StartRecord) (sup : Supply) (p : Int) (w : Nat) (run : RunningSlot) : Int :=
  if w = 0 then p else clamp (run.shadow + sup.v) (fu r.lo) (fu r.hi)

/-- The weights of a TAKE cue after R63 to R65, with the take target already stepped. -/
def takeStep (r : StartRecord) (sup : Supply) (p : Int) (taking : Bool) (run : RunningSlot) : RunningSlot :=
  { run with
    handback := handbackStep r sup run
    takeWeight := weightStep sup taking run
    shadow := shadowStep r sup p (weightStep sup taking run) run }

/-- The RUNNING slot after stage C (R61 to R65). -/
def modeStep (r : StartRecord) (sup : Supply) (p : Int) (taking : Bool) (run : RunningSlot) : RunningSlot :=
  match run.mode with
  | .play => run
  | .trim => trimStep sup run
  | .take => takeStep r sup p taking run

/-- The base of a running cue, from its slot after stage C (R61, R62, R65). -/
def cueBase (p : Int) (run : RunningSlot) : Int :=
  match run.mode with
  | .play => p
  | .trim => p + run.trimOffset
  | .take => p + (run.shadow - p) * (run.takeWeight : Nat) / 4096

/-! Stage D, catch-in (R67). -/

def catchTarget (base : Int) (run : RunningSlot) : Int :=
  if 0 < run.catchWeight then base + (run.catchOrigin - base) * (run.catchWeight : Nat) / 4096 else base

def catchStep (r : StartRecord) (run : RunningSlot) : RunningSlot :=
  { run with catchWeight := run.catchWeight - r.catchStep }

/-! Stage E, the limits. -/

/-- What stage E reads beside the target: the records and flags named in R56. -/
structure Limits where
  vlim : Nat
  amax : Nat
  lo : Int
  hi : Int
  seekTarget : Option Int
  posLimit : Bool
  negLimit : Bool
  deriving DecidableEq, Repr

/-- The coupling value both readers take at this expiry: the smaller of it and the rate (R48, R68, R108). -/
def State.coupled (s : State) (rate : Nat) : Nat :=
  match s.record.couplingSource, s.peers.coupling with
  | some _, some c => min rate c.value
  | _, _ => rate

/-- The rate scaled by guard / 256 while LINK_POOR stands (R48, R68, R170). -/
def State.guarded (s : State) (rate : Nat) : Nat :=
  if s.link.linkPoor then rate * s.record.guardFactor / 256 else rate

/-- The rate limit of R68. -/
def State.rateLimit (s : State) : Nat :=
  let v := s.guarded (s.coupled s.record.vmax)
  if s.source = .seek then min v s.record.vseek else v

def State.limits (s : State) : Limits :=
  { vlim := s.rateLimit, amax := s.record.amax, lo := fu s.record.lo, hi := fu s.record.hi
    seekTarget := if s.source = .seek then some (s.store.startPosition s.next.preset) else none
    posLimit := s.port.posLimit, negLimit := s.port.negLimit }

/-- The braking envelope over a distance of d fu: 0 at none, isqrt(min(2·amax·d, 2^62)) otherwise (R69, R70). -/
def envelope (amax : Nat) (d : Int) : Nat := if d ≤ 0 then 0 else isqrt (min (2 * amax * d.toNat) (2 ^ 62))

/-- The velocity allowed in the positive direction (R69 to R71). -/
def Limits.allowedPos (l : Limits) (x : Int) : Nat :=
  let byRange := min l.vlim (envelope l.amax (l.hi - x))
  let bySeek := match l.seekTarget with
    | some t => if x < t then min byRange (envelope l.amax (t - x)) else byRange
    | none => byRange
  if l.posLimit then 0 else bySeek

/-- The velocity allowed in the negative direction (R69 to R71). -/
def Limits.allowedNeg (l : Limits) (x : Int) : Nat :=
  let byRange := min l.vlim (envelope l.amax (x - l.lo))
  let bySeek := match l.seekTarget with
    | some t => if t < x then min byRange (envelope l.amax (x - t)) else byRange
    | none => byRange
  if l.negLimit then 0 else bySeek

/-- The velocity after the two clamps of R72, before the travel clamp. -/
def Limits.velocity (l : Limits) (x v target : Int) : Int :=
  clamp (clamp (target - x) (-(l.allowedNeg x : Int)) (l.allowedPos x)) (v - l.amax) (v + l.amax)

/-- The travel clamp of R73 on a wanted move of v from x: setpoint, velocity and AT_LIMIT; the take target is kept. -/
def travelClamp (lo hi : Int) (b : Blend) (v : Int) : Blend :=
  if b.x ≤ hi ∧ hi < b.x + v then { b with x := hi, v := hi - b.x, atLimit := true }
  else if lo ≤ b.x ∧ b.x + v < lo then { b with x := lo, v := lo - b.x, atLimit := true }
  else { b with x := b.x + v, v := v, atLimit := false }

/-- Stage E: from the target to the stored x and v (R68 to R74). -/
def limitStage (l : Limits) (b : Blend) (target : Int) : Blend :=
  travelClamp l.lo l.hi b (l.velocity b.x b.v target)

/-! The stage at an expiry. -/

/-- The computation of an expiry in RUN (R56), with the supply of that expiry, T already advanced. -/
def State.blendRun (sup : Supply) (s : State) : State :=
  match s.source with
  | .manual => s.setBlend (limitStage s.limits s.blend (s.blend.x + sup.v))
  | .seek => s.setBlend (limitStage s.limits s.blend (s.store.startPosition s.next.preset))
  | .cue =>
    let p := presetPosition (s.store.keyframes s.running.preset) s.running.cueTime
    let taking := if s.running.mode = .take then takingStep s.record sup s.running s.blend.taking else s.blend.taking
    let run := modeStep s.record sup p taking s.running
    let target := catchTarget (cueBase p run) run
    (s.setRunning (catchStep s.record run)).setBlend
      { limitStage s.limits s.blend target with taking := taking }

/-- The velocity moved toward 0 by a_halt (R76). -/
def decelerated (aHalt : Nat) (v : Int) : Int :=
  if 0 < v then max 0 (v - aHalt) else if v < 0 then min 0 (v + aHalt) else 0

/-- The computation of an expiry in HALTING (R76). -/
def State.blendHalting (s : State) : State :=
  s.setBlend (travelClamp (fu s.record.lo) (fu s.record.hi) s.blend (decelerated s.record.aHalt s.blend.v))

/-- The hold of an expiry in HALTED (R77). -/
def State.blendHalted (s : State) : State := s.setBlend { s.blend with v := 0, atLimit := false }

end Sys2Proof.Machine
end

