-- ==== Sys2Proof/Machine/Pace.lean ====
section
/-! DEFINITION. The pace governor and the ageing work of an expiry: own ability (R48, R190), participants, pace and lead hold
(R49 to R52), the advance of T (R44), and the expiry's work in stick intake (R86, R88, R89) and the peer table (R101,
R106 to R108). -/

namespace Sys2Proof.Machine

/-! Stick intake at an expiry. -/

/-- The phase for a hold age, while the owner is a station (R88). -/
def phaseOf (age : Nat) : StickPhase := if age = 0 then .live else if age ≤ 4 then .held else .zero

/-- The ageing of the stick record: hold age and phase (R88), the lapse at age 100 (R89), the contest count (R86). -/
def Stick.age (k : Stick) : Stick :=
  let age := satAdd 255 k.holdAge 1
  let contest := k.contest - 1
  match k.owner with
  | none => { k with holdAge := age, phase := .zero, contest := contest }
  | some _ =>
    if age = 100 then
      { k with owner := none, deflection := 0, holdAge := age, phase := .zero, contest := contest, lapsed := true }
    else { k with holdAge := age, phase := phaseOf age, contest := contest }

/-! The peer table at an expiry. -/

/-- The age of a present record rises by 1, saturating at 255; an absent record keeps age 255 (R101). -/
def PeerRecord.older (r : PeerRecord) : PeerRecord := if r.present then { r with age := satAdd 255 r.age 1 } else r

def Peers.older (p : Peers) : Peers := { p with records := mapTable PeerRecord.older p.records }

/-- A record is usable as the coupling source (R106). -/
def PeerRecord.usable (r : PeerRecord) (ownPeriod : Nat) : Bool :=
  r.fresh && r.report.state ≠ .config && !r.mismatch && r.report.controlPeriod = ownPeriod

/-- vcouple for an arm length (R107). -/
def couplingRate (r : StartRecord) (arm : Int) : Nat := r.k / (r.r0 + (clamp arm 0 r.lmax).toNat)

/-- The coupling value formed at an expiry from the source's record, or blind at Lmax; none without a source (R106 to
R110). -/
def State.coupling (s : State) : Option Coupling :=
  match s.record.couplingSource with
  | none => none
  | some n =>
    let rec_ := s.peers.records[n]
    if rec_.usable s.record.controlPeriod then
      some { value := couplingRate s.record rec_.report.measured, blind := false }
    else some { value := couplingRate s.record s.record.lmax, blind := true }

/-- The table's work at an expiry: ageing, then the coupling value (R101, R108). -/
def State.peersExpiry (s : State) : State :=
  let s := s.setPeers s.peers.older
  s.setPeers { s.peers with coupling := s.coupling }

/-! The pace governor. -/

/-- The rate available to the cue (R48). -/
def State.cueRate (s : State) : Nat := s.guarded (s.coupled s.record.vmax)

/-- The demand of one nominal period ahead of T (R48). -/
def State.demand (s : State) : Nat :=
  let ks := s.store.keyframes s.running.preset
  (presetPosition ks (s.running.cueTime + 65536) - presetPosition ks s.running.cueTime).natAbs

/-- The ability for a demand at a rate (R48). -/
def abilityFor (demand rate : Nat) : Nat := if demand ≤ rate then 65536 else max 1024 (65536 * rate / demand)

/-- The own ability (R48, R190): the preset alone enters it. -/
def State.ownAbility (s : State) : Nat := if s.running.state = .held then 0 else abilityFor s.demand s.cueRate

/-- The peer n is a participant of the running cue (R49). -/
def State.participant (s : State) (n : Station) : Bool :=
  let r := s.peers.records[n]
  maskHas s.running.participants n && n ≠ s.own && maskHas s.running.seen n && r.fresh &&
  r.report.cueId = s.running.cueId && r.report.cueState ≠ .idle &&
  r.report.controlPeriod = s.record.controlPeriod && !r.mismatch

/-- The member n of the participant mask is lost (R52); a marked record is not (R103, log 18). -/
def State.lost (s : State) (n : Station) : Bool :=
  let r := s.peers.records[n]
  maskHas s.running.participants n && n ≠ s.own && !r.mismatch && (!r.fresh || !maskHas s.running.seen n)

/-- The cue time projected for a peer, in whole periods (R51). -/
def PeerRecord.projection (r : PeerRecord) : Nat := r.report.cueTime + r.age * r.report.ability / 65536

/-- The smallest of the own ability and the participants' (R50). -/
def State.governed (s : State) : Nat :=
  stations.foldl (fun m n => if s.participant n then min m s.peers.records[n].report.ability else m) s.ownAbility

/-- The station stands more than 4 whole periods ahead of some participant's projection (R51). -/
def State.leads (s : State) : Bool :=
  stations.any fun n => s.participant n && s.peers.records[n].projection + 4 < s.running.cueTime / 65536

/-- pace_eff (R50, R51). -/
def State.pace (s : State) : Nat := if s.leads then 0 else s.governed

/-- T after its advance by `pace` (R44): 0 at a fresh start, and never past t_last·65536. -/
def State.advancedTime (s : State) (pace : Nat) : Nat :=
  if s.running.freshStart then 0
  else min (s.running.cueTime + pace) (((s.store.keyframes s.running.preset).getLastD Keyframe.blank).time * 65536)

/-- The cue engine's work at an expiry before the blend (R43): ability, pace, PEER_LOST, T. -/
def State.cueExpiry (s : State) : State :=
  if s.running.state = .idle then s
  else
    s.setRunning
      { s.running with
        ability := s.ownAbility
        paceEff := s.pace
        peerLost := stations.any s.lost
        cueTime := s.advancedTime s.pace
        freshStart := false }

end Sys2Proof.Machine
end

