-- ==== Sys2Proof/Machine/PortOps.lean ====
section
/-! DEFINITION. The drive port's shared operations: handover and replacement (R146), the start of an exchange (R147) and the
missed exchange (R149). -/

namespace Sys2Proof.Machine

/-- An exchange begins when a record is pending, none is in flight and DRDY is high (R147). -/
def State.tryExchange (s : State) : State :=
  match s.port.pendingRecord, s.port.inFlight with
  | some p, none =>
    if s.pins.drdy then s.setPort { s.port with pendingRecord := none, inFlight := some p } else s
  | _, _ => s

/-- A missed exchange (R149); DRIVE_LOST is raised when the miss run becomes 3. -/
def State.missExchange (s : State) : State :=
  let run := satAdd 255 s.port.missRun 1
  let s := (s.setPort { s.port with lastExchange := .missed, missRun := run }).countDriveMiss
  s.raise (causeIf (run = 3) causeDriveLost)

/-- A handover (R146): the record takes the next sequence, replaces a pending record as a missed exchange, and starts at
once where nothing is in the way. -/
def State.handOver (position velocity : Int) (enable halting : Bool) (s : State) : State :=
  let replaced := s.port.pendingRecord.isSome
  let s := s.setPort
    { s.port with
      nextSequence := s.port.nextSequence + 1
      pendingRecord := some { sequence := s.port.nextSequence, position := position, velocity := velocity,
                              enable := enable, halting := halting } }
  (if replaced then s.missExchange else s).tryExchange

end Sys2Proof.Machine
end

