-- ==== Sys2Proof/Machine/DrivePort.lean ====
section
/-! DEFINITION. DRDY_RISE, DRDY_FALL and EXCHANGE_COMPLETE: the judging of the feedback and all that a valid feedback brings
(R146 to R153, R79, R141, R181). -/

namespace Sys2Proof.Machine

/-- The drive status a status byte spells; none is the absent case (R148, R189). -/
def driveStatusOf (b : Byte) : Option DriveStatus :=
  if b = 0x5A then some .ok else if b = 0xA5 then some .fault else none

/-- DRDY_RISE (R147). -/
def execDrdyRise (s : State) : Host.Outcome State Fault Refusal :=
  .next
    (if s.pins.rstn then (s.setPins { s.pins with drdy := true }).tryExchange
     else s.setPins { s.pins with drdy := true })

/-- DRDY_FALL (R146): an exchange under way runs on, and a later handover leaves its record pending. -/
def execDrdyFall (s : State) : Host.Outcome State Fault Refusal := .next (s.setPins { s.pins with drdy := false })

/-- A limit flag edge: active now, clear in the stored flags (R152). -/
def Port.limitEdge (p : Port) (fb : RawFeedback) : Bool :=
  (fb.limits.getLsbD 0 && !p.posLimit) || (fb.limits.getLsbD 1 && !p.negLimit)

/-- The following error, in au at full width (R153). -/
def followingError (sent : Setpoint) (fb : RawFeedback) : Nat := (sent.position - fb.measured.toInt).natAbs

/-- The following run after an error (R153). -/
def Port.nextRun (p : Port) (feLimit err : Nat) : Nat := if feLimit < err then satAdd 255 p.followingRun 1 else 0

/-- FOLLOWING is raised when the run has just become fe_count (R153). -/
def Port.followingRaised (p : Port) (feLimit feCount err : Nat) : Bool :=
  p.nextRun feLimit err = feCount && p.followingRun ≠ feCount

/-- The port with a valid feedback stored; the following check is not made in CONFIG (R150, R153). -/
def Port.storeFeedback (p : Port) (inConfig : Bool) (feLimit : Nat) (status : DriveStatus) (sent : Setpoint)
    (fb : RawFeedback) : Port :=
  { p with
    inFlight := none
    feedbackSeen := true
    measured := fb.measured.toInt
    status := status
    posLimit := fb.limits.getLsbD 0
    negLimit := fb.limits.getLsbD 1
    error := if inConfig then 0 else followingError sent fb
    lastExchange := .valid
    missRun := 0
    followingRun := if inConfig then 0 else p.nextRun feLimit (followingError sent fb)
    validSinceExpiry := true }

/-- The causes a valid feedback raises at its one event (R150 to R153). -/
def State.feedbackCauses (status : DriveStatus) (sent : Setpoint) (fb : RawFeedback) (s : State) : Causes :=
  causeIf (s.port.limitEdge fb) causeLimitSwitch ||| causeIf (status = .fault) causeDriveFault |||
  causeIf (s.halt.station ≠ .config &&
      s.port.followingRaised s.record.feLimit s.record.feCount (followingError sent fb)) causeFollowing

/-- The first valid feedback in CONFIG with the record frozen takes the station to RUN, or to HALTED where NUMBER_CLASH is
latched (R79, R141, R181). -/
def State.leaveConfig (s : State) : State :=
  if s.halt.station = .config ∧ s.frozen then
    let s := s.setBlend { s.blend with x := fu s.port.measured, v := 0, atLimit := false }
    if causesHave s.halt.causes causeNumberClash then
      (s.recordHalt s.own causeNumberClash causeNumberClash).setHalt
        { (s.recordHalt s.own causeNumberClash causeNumberClash).halt with station := .halted }
    else s.setHalt { s.halt with station := .run }
  else s

/-- The STATE report of a valid feedback is placed, and a self-watching trigger evaluates it (R115, R150). -/
def State.reportFeedback (s : State) : State :=
  let report := s.makeReport
  let s := s.placeState report
  if s.trigger.watched = s.own then s.evaluateTrigger report.state report.measured else s

/-- A valid feedback, in the order of R150. -/
def State.validFeedback (status : DriveStatus) (sent : Setpoint) (fb : RawFeedback) (s : State) : State :=
  let stored := s.setPort (s.port.storeFeedback (s.halt.station = .config) s.record.feLimit status sent fb)
  ((stored.raise (s.feedbackCauses status sent fb)).leaveConfig).reportFeedback

/-- A feedback that is absent or mismatched: the record in flight becomes none and the exchange is missed (R148, R149). -/
def State.badFeedback (s : State) : State := (s.setPort { s.port with inFlight := none }).missExchange

/-- The judging of a feedback against the record in flight (R148). -/
def State.judge (sent : Setpoint) (fb : RawFeedback) (s : State) : State :=
  match driveStatusOf fb.status with
  | none => s.badFeedback
  | some status => if fb.echo = sent.sequence then s.validFeedback status sent fb else s.badFeedback

/-- EXCHANGE_COMPLETE (R148); a pending record's exchange follows where DRDY is high (R147). With no record in flight no
exchange can complete (log 4). -/
def execExchangeComplete (fb : RawFeedback) (s : State) : Host.Outcome State Fault Refusal :=
  .next
    (if s.pins.rstn then
      match s.port.inFlight with
      | some sent => (s.judge sent fb).tryExchange
      | none => s
    else s)

end Sys2Proof.Machine
end

