-- ==== Sys2Proof/Machine/Expiry.lean ====
section
/-! DEFINITION. The events of the part's timers: CONTROL_PERIOD_EXPIRY with everything the blocks do at it (R10, R13, R33,
R43, R56, R76, R77, R86, R88, R101, R108, R133, R134, R146), the rows that name an event such an expiry brings, and
CONFIG_EXCHANGE_INTERVAL (R78, R101, R154). -/

namespace Sys2Proof.Machine

/-- The ageing that every expiry brings, in RUN, HALTING and HALTED: stick record (R88), peer table and coupling value
(R101, R108), download lapse (R10). -/
def State.ageExpiry (s : State) : State :=
  let s := s.setStick s.stick.age
  s.peersExpiry.downloadExpiry

/-- The seek test on the stored setpoint and velocity (R33). -/
def State.seekPasses (s : State) : Bool :=
  s.running.state = .idle && s.next.state = .seeking &&
  (s.blend.x - s.store.startPosition s.next.preset).natAbs ≤ s.record.startWindow * 65536 &&
  s.blend.v.natAbs ≤ s.record.amax

/-- NEXT becomes READY where the seek test passes (R33). -/
def State.seekTest (s : State) : State :=
  if s.seekPasses then s.setNext { s.next with state := .ready } else s

/-- The pass ends where T stands at t_last·65536 (R45). -/
def State.passTest (s : State) : State := if s.atPassEnd then s.endPass else s

/-- An expiry in RUN up to the stored setpoint: cue engine, then blend (R43, R56). -/
def State.computeRun (sup : Supply) (s : State) : State := s.cueExpiry.blendRun sup

/-- The readers of the stored setpoint (R56): the capture of a recording (R13), and the seek test or the end of the pass
(R33, R45). A cue that starts at this expiry's end meets neither test. -/
def State.readSetpoint (s : State) : State :=
  let s := s.recordExpiry
  if s.running.state = .idle then s.seekTest else s.passTest

/-- An expiry in HALTING: the deceleration, and HALTED when it stores v = 0 (R76, R133). -/
def State.computeHalting (s : State) : State :=
  let s := s.blendHalting
  if s.blend.v = 0 then s.setHalt { s.halt with station := .halted } else s

/-- What the station computes at an expiry, by its state; the supply was taken before the ageing (R88). -/
def State.computeExpiry (sup : Supply) (s : State) : State :=
  match s.halt.station with
  | .run => (s.computeRun sup).readSetpoint
  | .halting => s.computeHalting
  | .halted => s.blendHalted
  | .config => s

/-- The condition of R134 as an expiry finds it: DRIVE_LOST latched, and no valid feedback since the previous expiry
(log 9). -/
def State.reportDue (s : State) : Bool := causesHave s.halt.causes causeDriveLost && !s.port.validSinceExpiry

/-- The report of R134, made after the computation. -/
def State.lostReport (due : Bool) (s : State) : State := if due then s.placeState s.makeReport else s

/-- The setpoint record of an expiry goes to the drive port (R75, R146). -/
def State.handSetpoint (s : State) : State :=
  s.handOver (roundAuCapped s.blend.x) s.blend.v true (s.halt.station = .halting || s.halt.station = .halted)

/-- A new period begins: no valid feedback has come in it (R134). -/
def State.newPeriod (s : State) : State := s.setPort { s.port with validSinceExpiry := false }

/-- One expiry of the control period timer, whole (log 8). -/
def State.expiry (s : State) : State :=
  let computed := s.ageExpiry.computeExpiry s.stickSupply
  ((computed.lostReport s.reportDue).newPeriod).handSetpoint

/-- CONTROL_PERIOD_EXPIRY (R43); the timer does not run in CONFIG or while RSTN is held low (log 4, log 5). -/
def execControlPeriodExpiry (s : State) : Host.Outcome State Fault Refusal :=
  .next (if s.timerRuns then s.expiry else s)

/-! The rows that name an event an expiry brings: each is the expiry at which the event comes, and no change where the
expiry now due would not bring it (log 2). -/

/-- The state of an expiry in RUN with the setpoint stored, before its readers. -/
def State.storedSetpoint (s : State) : State := s.ageExpiry.computeRun s.stickSupply

/-- An expiry now would complete the seek (R33). -/
def State.seekCompletes (s : State) : Bool :=
  s.timerRuns && s.halt.station = .run && s.storedSetpoint.seekPasses

/-- SEEK_COMPLETION (R33). -/
def execSeekCompletion (s : State) : Host.Outcome State Fault Refusal :=
  .next (if s.seekCompletes then s.expiry else s)

/-- An expiry now would end the pass (R45). -/
def State.passEnds (s : State) : Bool :=
  s.timerRuns && s.halt.station = .run && s.storedSetpoint.atPassEnd

/-- PASS_END (R45 to R47). -/
def execPassEnd (s : State) : Host.Outcome State Fault Refusal :=
  .next (if s.passEnds then s.expiry else s)

/-- An expiry now would complete the halt: HALTING, and its computation stores v = 0 (R133). -/
def State.haltCompletes (s : State) : Bool :=
  s.timerRuns && s.halt.station = .halting && s.blendHalting.blend.v = 0

/-- HALT_COMPLETE (R76, R133). -/
def execHaltComplete (s : State) : Host.Outcome State Fault Refusal :=
  .next (if s.haltCompletes then s.expiry else s)

/-- An expiry now would bring the lapse count to 2000 (R10). -/
def State.downloadLapses (s : State) : Bool :=
  s.timerRuns && match s.store.download with
    | some d => 2000 ≤ d.lapse + 1
    | none => false

/-- DOWNLOAD_LAPSE (R10). -/
def execDownloadLapse (s : State) : Host.Outcome State Fault Refusal :=
  .next (if s.downloadLapses then s.expiry else s)

/-- An expiry now would bring the owner's hold age to 100 (R89). -/
def State.ownerLapses (s : State) : Bool :=
  s.timerRuns && s.stick.owner.isSome && satAdd 255 s.stick.holdAge 1 = 100

/-- OWNER_LAPSE (R89). -/
def execOwnerLapse (s : State) : Host.Outcome State Fault Refusal :=
  .next (if s.ownerLapses then s.expiry else s)

/-- An expiry now would bring the contest count to 0 (R86). -/
def State.contestExpires (s : State) : Bool := s.timerRuns && s.stick.contest = 1

/-- CONTEST_EXPIRY (R86). -/
def execContestExpiry (s : State) : Host.Outcome State Fault Refusal :=
  .next (if s.contestExpires then s.expiry else s)

/-! The configuration exchange interval. -/

/-- The hold record of CONFIG (R78): the measured position of the last valid feedback, which is 0 while none has come. -/
def State.handHold (s : State) : State :=
  s.handOver (if s.port.feedbackSeen then s.port.measured else 0) 0 false false

/-- CONFIG_EXCHANGE_INTERVAL (R78, R101, R154): the peer records age and the hold record is handed over, in CONFIG only. -/
def execConfigExchangeInterval (s : State) : Host.Outcome State Fault Refusal :=
  .next (if s.pins.rstn ∧ s.halt.station = .config then (s.setPeers s.peers.older).handHold else s)

end Sys2Proof.Machine
end

