-- ==== Sys2Proof/Machine/HaltFrames.lean ====
section
/-! DEFINITION. The class 0 frames, HALT (R130) and RESUME (R137, R138). -/

namespace Sys2Proof.Machine

/-- What a HALT frame does past the number test; an origin above 15 is discarded (R130, R187). -/
def State.actHalt (origin causes : Byte) (s : State) : State :=
  match stationOf origin with
  | some o => s.haltFromOutside causeRemote o causes
  | none => s

/-- HALT (R130): the carried epoch is neither compared nor kept. -/
def execHalt (sender : Station) (origin causes _epoch : Byte) (s : State) : Host.Outcome State Fault Refusal :=
  .next (s.arrive sender (State.actHalt origin causes))

/-- The causes whose clearing condition holds at a RESUME (R128, R137). -/
def State.clearing (s : State) : Causes :=
  causeRemote ||| causePeer ||| causeMark ||| causeLimitSwitch |||
  causeIf (s.port.error ≤ s.record.feLimit) causeFollowing |||
  causeIf (s.port.lastExchange = .valid) causeDriveLost |||
  causeIf (s.port.status = .ok) causeDriveFault

/-- The causes that remain at a RESUME (R137). -/
def State.remaining (s : State) : Causes := s.halt.causes &&& ~~~ s.clearing

/-- The station enters RUN from HALTED: x is kept and v is 0 (R138). -/
def State.enterRun (s : State) : State :=
  (s.setHalt { s.halt with station := .run }).setBlend { s.blend with v := 0 }

/-- What a RESUME does: the epoch everywhere, and at a HALTED station the clearing of causes and the return to RUN
(R137). -/
def State.actResume (epoch : Byte) (s : State) : State :=
  if s.halt.station = .halted then
    let s := s.setHalt { s.halt with epoch := epoch, causes := s.remaining }
    if s.halt.causes = 0 then s.enterRun else s
  else s.setHalt { s.halt with epoch := epoch }

/-- RESUME (R137). -/
def execResume (sender : Station) (epoch : Byte) (s : State) : Host.Outcome State Fault Refusal :=
  .next (s.arrive sender (State.actResume epoch))

end Sys2Proof.Machine
end

