-- ==== Sys2Proof/Machine/Line.lean ====
section
/-! DEFINITION. CONTENTION_WINDOW, TRANSMISSION_COMPLETE, BAD_ARRIVAL, ERROR_WINDOW_END and the arrivals that no block takes
(R158, R161 to R165, R168, R170, R30). -/

namespace Sys2Proof.Machine

/-- The first non-empty part of the outbound list (R162). -/
def Link.firstPart (l : Link) : Option Part :=
  if l.haltSlot.isSome then some .halt
  else if l.cueList ≠ [] then some .cue
  else if l.stateSlot.isSome then some .state
  else if l.replySlot.isSome then some .reply
  else none

/-- The class of a part's frames (R160). -/
def Part.cls : Part → Nat
  | .halt => 0
  | .cue => 1
  | .state => 2
  | .reply => 3

/-- The window opens: the offered key is fixed (R161, R162). -/
def State.openWindow (s : State) : State :=
  s.setLink { s.link with offer := s.link.firstPart.map fun p => { part := p, key := keyOf p.cls s.own } }

/-- The frame in a part as it stands, and the list without it (R162). -/
def Link.takeFrame (l : Link) : Part → Option (Frame × Link)
  | .halt => l.haltSlot.map fun f => (.halt f, { l with haltSlot := none })
  | .cue => match l.cueList with
    | [] => none
    | f :: rest => some (.cue f, { l with cueList := rest })
  | .state => l.stateSlot.map fun r => (.state r, { l with stateSlot := none })
  | .reply => l.replySlot.map fun r => (.reply r, { l with replySlot := none })

/-- The own slot begins (R161, R162): activity in an earlier slot withdraws the offer, an emptied part begins no frame,
and otherwise the frame goes into flight. -/
def State.ownSlot (others : Option Byte) (s : State) : State :=
  match s.link.offer with
  | none => s
  | some o =>
    if others.any fun k => k < o.key then s.setLink s.link.withdrawn
    else match s.link.takeFrame o.part with
      | none => s.setLink s.link.withdrawn
      | some (f, l) => s.setLink { l with inFlight := some { key := o.key, frame := f }, offer := none }

/-- CONTENTION_WINDOW (R161, R162; log 11): no window opens while the own frame drives the line (log 12). -/
def execContentionWindow (event : WindowEvent) (s : State) : Host.Outcome State Fault Refusal :=
  .next
    (if s.deaf then s
     else match event with
      | .opening => s.openWindow
      | .slot others => s.ownSlot others
      | .whole others => s.openWindow.ownSlot others)

/-- The completion effect of a sent frame (R165, R30). -/
def State.completeFrame (f : Frame) (s : State) : State :=
  match f with
  | .cue (.go mask cueId) => s.inMask mask (State.actGo mask cueId)
  | .cue (.stop mask cueId) => s.inMask mask (State.actStop cueId)
  | .halt _ => s
  | .state _ => s
  | .reply _ => s

/-- TRANSMISSION_COMPLETE (R165). -/
def execTransmissionComplete (s : State) : Host.Outcome State Fault Refusal :=
  .next
    (match s.link.inFlight with
     | none => s
     | some f => (s.completeFrame f.frame).setLink { (s.completeFrame f.frame).link with inFlight := none })

/-- BAD_ARRIVAL (R158): counted and dropped. -/
def execBadArrival (s : State) : Host.Outcome State Fault Refusal := .next (if s.deaf then s else s.countArrival true)

/-- The arrival that comes now ends the error window (R170). -/
def State.windowEnds (s : State) : Bool :=
  !s.deaf && s.frozen && s.record.windowSize ≤ satAdd 65535 s.link.arrivals 1

/-- ERROR_WINDOW_END (R170): an arrival, judged bad or good and taken by no block, at which the window ends; no change
where it would not end one (log 3). -/
def execErrorWindowEnd (bad : Bool) (s : State) : Host.Outcome State Fault Refusal :=
  .next (if s.windowEnds then s.countArrival bad else s)

/-- SERVICE_REPLY (R168): counted, put to the number test and discarded. -/
def execServiceReply (sender : Station) (s : State) : Host.Outcome State Fault Refusal := .next (s.arrive sender id)

/-- UNKNOWN_KIND (R168, R187): counted, put to the number test and discarded. -/
def execUnknownKind (sender : Station) (s : State) : Host.Outcome State Fault Refusal := .next (s.arrive sender id)

end Sys2Proof.Machine
end

