-- ==== Sys2Proof/Machine/MarkUnit.lean ====
section
/-! DEFINITION. MARK_SAMPLE: sampling and debouncing of the mark lines, the EVENT and MATCH tests, the latch and the action
of a firing (R120 to R125). -/

namespace Sys2Proof.Machine

/-- One line at a sample event (R120): the accepted level follows two samples that agree. -/
def MarkLine.sample (l : MarkLine) (level : Bool) : MarkLine :=
  { previous := some level, accepted := if l.previous = some level then some level else l.accepted }

/-- The sample makes an accepted change: a level that was set becomes the other (R120). -/
def MarkLine.changes (l : MarkLine) (level : Bool) : Bool :=
  l.accepted.isSome && (l.sample level).accepted ≠ l.accepted

/-- An unmasked line with an accepted change (R122). -/
def anyUnmasked (mask : Lines Bool) (changes : Lines Bool) : Bool :=
  (Lines.zip (fun m c => !m && c) mask changes).toList.any id

/-- Every unmasked line's accepted level equals its pattern level; an unset level does not (R123). -/
def linesMatch (mask pattern : Lines Bool) (accepted : Lines (Option Bool)) : Bool :=
  (Lines.zip (fun (mp : Bool × Bool) a => mp.1 || a = some mp.2) (Lines.zip Prod.mk mask pattern) accepted).toList.all id

/-- The accepted levels of the four lines. -/
def Mark.accepted (m : Mark) : Lines (Option Bool) := m.lines.map MarkLine.accepted

/-- The lines stand in match by the start record's mask and pattern (R123). -/
def State.inMatch (s : State) : Bool :=
  linesMatch (linesOf s.record.markMask) (linesOf s.record.markPattern) s.mark.accepted

/-- The match standing taken from the accepted levels (R123). -/
def State.takenStanding (s : State) : MatchStanding := if s.inMatch then .inMatch else .out

/-- The lines after a sample event (R120). -/
def State.sampled (levels : BitVec 4) (s : State) : State :=
  s.setMark { s.mark with lines := Lines.zip MarkLine.sample s.mark.lines (linesOf levels) }

/-- In MATCH the standing is decided anew from the accepted levels (R123); elsewhere it is left (log 21). -/
def State.restand (s : State) : State :=
  if s.record.markMode = .pattern then s.setMark { s.mark with standing := s.takenStanding } else s

/-- The sample event fires (R122, R123); in OFF, and while the record is not frozen, it does not (R121). -/
def State.markFires (levels : BitVec 4) (s : State) : Bool :=
  match s.record.markMode with
  | .off => false
  | .event => anyUnmasked (linesOf s.record.markMask) (Lines.zip MarkLine.changes s.mark.lines (linesOf levels))
  | .pattern => s.mark.standing = .out && (s.sampled levels).inMatch

/-- The mark action in RUN (R124). -/
def State.markActionRun (s : State) : State :=
  match s.record.markAction with
  | .go => if s.next.state = .empty then s.countMiss else s.placeCue (.go s.record.goMask s.next.cueId)
  | .stop => s.placeCue (.stop s.record.goMask 255)
  | .halt => s.raise causeMark

/-- The mark action in HALTING and HALTED: HALT latches MARK, the others have no effect (R124). -/
def State.markActionHalted (s : State) : State :=
  match s.record.markAction with
  | .go => s
  | .stop => s
  | .halt => s.raise causeMark

/-- A firing: the pattern is latched (R125), then the action is taken by the station state (R124). -/
def State.markFiring (s : State) : State :=
  let s := s.setMark { s.mark with latched := some s.mark.accepted }
  match s.halt.station with
  | .run => s.markActionRun
  | .halting => s.markActionHalted
  | .halted => s.markActionHalted
  | .config => s

/-- MARK_SAMPLE (R120): no sample is taken while RSTN is held low (R185). -/
def execMarkSample (levels : BitVec 4) (s : State) : Host.Outcome State Fault Refusal :=
  .next
    (if s.pins.rstn then
      if s.markFires levels then ((s.sampled levels).restand).markFiring else (s.sampled levels).restand
    else s)

end Sys2Proof.Machine
end

