-- ==== Sys2Proof/Machine/PeerTable.lean ====
section
/-! DEFINITION. STATE: the writing of a report into the peer table and its three hand-offs (R49, R99, R100, R103, R115, R131,
R136). -/

namespace Sys2Proof.Machine

/-- The PERIOD_MISMATCH marker for a reported control period, by the start record in force (R103). -/
def mismatches (record : Option StartRecord) (period : Nat) : Bool :=
  match record with
  | some r => period ≠ 0 && period ≠ r.controlPeriod
  | none => false

/-- The record a report writes: copied whole, present, age 0, marked or not (R99). -/
def writtenRecord (record : Option StartRecord) (r : Report) : PeerRecord :=
  { present := true, report := r, age := 0, mismatch := mismatches record r.controlPeriod }

/-- The report overwrites its sender's record (R99). -/
def State.writePeer (sender : Station) (r : Report) (s : State) : State :=
  s.setPeers { s.peers with records := s.peers.records.set sender (writtenRecord s.start.record r) }

/-- The sender joins the seen set when it is a member of the participant mask that plays the running cue (R49, R100). -/
def State.joinSeen (sender : Station) (r : Report) (s : State) : State :=
  if s.running.state ≠ .idle ∧ maskHas s.running.participants sender ∧ r.cueId = s.running.cueId ∧
      r.cueState ≠ .idle then
    s.setRunning { s.running with seen := maskAdd s.running.seen sender }
  else s

/-- The trigger evaluates a report of the watched station (R100, R115). -/
def State.watchReport (sender : Station) (r : Report) (s : State) : State :=
  if s.trigger.watched = sender then s.evaluateTrigger r.state r.measured else s

/-- Halt control takes the report: in CONFIG for the epoch (R136), otherwise a halting report with equal epoch halts or is
latched (R131). -/
def State.haltReport (sender : Station) (r : Report) (s : State) : State :=
  if s.halt.station = .config then
    if r.state = .config then s else s.setHalt { s.halt with epoch := r.epoch }
  else if (r.state = .halting ∨ r.state = .halted) ∧ r.epoch = s.halt.epoch then
    s.haltFromOutside causePeer sender r.causes
  else s

/-- The hand-offs of a written report, the halt check and the trigger evaluation in the order told (R100, log 10). -/
def State.handReport (sender : Station) (r : Report) (haltFirst : Bool) (s : State) : State :=
  let s := s.joinSeen sender r
  if haltFirst then (s.haltReport sender r).watchReport sender r else (s.watchReport sender r).haltReport sender r

/-- What a STATE report does past the number test; one with a field out of range is discarded (R99). -/
def State.actState (sender : Station) (raw : RawReport) (haltFirst : Bool) (s : State) : State :=
  match reportOf raw with
  | none => s
  | some r => (s.writePeer sender r).handReport sender r haltFirst

/-- STATE (R99, R100). -/
def execState (sender : Station) (report : RawReport) (haltFirst : Bool) (s : State) :
    Host.Outcome State Fault Refusal :=
  .next (s.arrive sender (State.actState sender report haltFirst))

end Sys2Proof.Machine
end

