-- ==== Sys2Proof/Machine/Reset.lean ====
section
/-! DEFINITION. POWER_ON_RESET, RSTN_ASSERT and RSTN_RELEASE (R21, R24, R155, R166, R185). -/

namespace Sys2Proof.Machine

/-- Every block at its reset values, the straps read, the pins and the waiting commands as they are (R185). -/
def State.resetBlocks (straps : Station) (pins : Pins) (s : State) : State :=
  (State.afterReset straps pins).setPending s.pending

/-- POWER_ON_RESET (R185): the internal reset ends, as at the release of RSTN; the RSTN pin itself keeps its level
(log 14). -/
def execPowerOnReset (straps : Station) (s : State) : Host.Outcome State Fault Refusal :=
  .next (s.resetBlocks straps s.pins)

/-- RSTN_ASSERT (R185): the transmission is cut short and the outbound list emptied (R166), the exchange truncated and the
pending record discarded (R155), and a compaction in flight ends with the pool cleared (R21, R24; log 6). -/
def execRstnAssert (s : State) : Host.Outcome State Fault Refusal :=
  .next
    ((((s.setPins { s.pins with rstn := false }).setLink
      { s.link with haltSlot := none, cueList := [], stateSlot := none, replySlot := none, inFlight := none,
                    offer := none }).setPort { s.port with pendingRecord := none, inFlight := none }).setStore
      (if s.store.compacting then Store.reset else s.store))

/-- RSTN_RELEASE (R185): every block takes its reset values and the straps are read. -/
def execRstnRelease (straps : Station) (s : State) : Host.Outcome State Fault Refusal :=
  .next (s.resetBlocks straps { s.pins with rstn := true })

end Sys2Proof.Machine
end

