-- ==== Sys2Proof/Machine/StartRequests.lean ====
section
/-! DEFINITION. The start record and identity block's requests: IDENT (R186), START_RECORD_WRITE (R178 to R180) and RESTART
(R183, R184). -/

namespace Sys2Proof.Machine

/-- The standing of the start record: cleared 0, section 1 staged 1, frozen 2 (R186, chapter 11). -/
def Start.standing (st : Start) : Byte := if st.record.isSome then 2 else if st.staged.isSome then 1 else 0

/-- The results of IDENT (R186). -/
def State.identBytes (s : State) : List Byte :=
  nat16 740 ++
  [Config.partRevision, stationByte s.own, axisKindCode (s.start.record.map fun r => r.axisKind),
   stationStateCode s.halt.station, s.start.standing]

/-- IDENT's outcome (R186). -/
def identAnswer (s : State) : Answer := s.done s.identBytes

/-- IDENT (R186). -/
def execIdent (header : ReqHeader) (args : Sized Unit) (s : State) : Host.Outcome State Fault Refusal :=
  .next (s.request header 0x01 (State.withArgs args fun _ => identAnswer))

/-! Writing the record. -/

/-- The station is not in CONFIG, or the record is frozen: a write is answered FROZEN (R178). -/
def State.recordClosed (s : State) : Bool := s.halt.station ≠ .config || s.frozen

/-- REJECTED, carrying the field number (R178, R179, R188). -/
def State.rejected (s : State) (field : Nat) : Answer := { after := s, code := .rejected, results := [nat8 field] }

/-- Section 1's outcome (R178). -/
def section1Answer (r : RawSection1) (s : State) : Answer :=
  if s.recordClosed then s.answer .frozen
  else match firstFailing (section1Checks r) with
    | some n => s.rejected n
    | none => (s.setStart { s.start with staged := some (section1Of r) }).done []

/-- START_RECORD_WRITE's outcome by its section byte, for a length that is not section 2's (R178, R188, log 19). -/
def section1ArgsAnswer (args : SectionArgs RawSection1) (s : State) : Answer :=
  match args with
  | .wrongLength => s.answer .badRequest
  | .badSection _ => s.answer .badRequest
  | .fields r => section1Answer r s

/-- START_RECORD_WRITE with section 1 (R178). -/
def execStartRecordWriteSection1 (header : ReqHeader) (args : SectionArgs RawSection1) (s : State) :
    Host.Outcome State Fault Refusal :=
  .next (s.request header 0x02 (section1ArgsAnswer args))

/-- The marker of a present record, decided anew (R103). -/
def PeerRecord.remarked (r : StartRecord) (q : PeerRecord) : PeerRecord :=
  if q.present then { q with mismatch := mismatches (some r) q.report.controlPeriod } else q

/-- The markers of every present record, decided anew at the freezing (R103, R180). -/
def Peers.remarked (p : Peers) (r : StartRecord) : Peers :=
  { p with records := mapTable (PeerRecord.remarked r) p.records }

/-- The preset store's part of the freezing: the range check, or its deferral to a compaction's completion (R23, R180). -/
def Store.checkFrozen (st : Store) (r : StartRecord) : Store :=
  if st.compacting then { st with rangeCheckDue := true } else st.checkRanges r.lo r.hi

/-- The freezing and what each neighbour does at it (R179, R180). -/
def State.freeze (r : StartRecord) (s : State) : State :=
  let s := s.setStart { s.start with record := some r, staged := none }
  let s := s.setPeers (s.peers.remarked r)
  (s.setStore (s.store.checkFrozen r)).restand

/-- Section 2's outcome (R179). -/
def section2Answer (r : RawSection2) (s : State) : Answer :=
  if s.recordClosed then s.answer .frozen
  else match s.start.staged with
    | none => s.answer .wrongState
    | some sec1 =>
      match firstFailing (section2Checks s.own r) with
      | some n => s.rejected n
      | none => (s.freeze { toSection1 := sec1, toSection2 := section2Of r }).done []

/-- START_RECORD_WRITE with section 2 (R179). -/
def execStartRecordWriteSection2 (header : ReqHeader) (args : Sized RawSection2) (s : State) :
    Host.Outcome State Fault Refusal :=
  .next (s.request header 0x02 (State.withArgs args section2Answer))

/-! RESTART. -/

/-- The stage at RESTART: x kept, v 0, AT_LIMIT clear, take target 0 (R80). -/
def Blend.restarted (b : Blend) : Blend := { b with v := 0, atLimit := false, taking := false }

/-- The mark unit at RESTART: samples and levels kept, the latched pattern absent, the standing set aside (R123, R126). -/
def Mark.restarted (m : Mark) : Mark := { m with standing := .setAside, latched := none }

/-- The drive port at RESTART: the pending record discarded, the exchange in flight going on, the runs and the error
cleared, the stored feedback and the sequence kept (R155). -/
def Port.restarted (p : Port) : Port :=
  { p with pendingRecord := none, error := 0, lastExchange := .valid, missRun := 0, followingRun := 0,
           validSinceExpiry := false }

/-- The link interface at RESTART: HALT slot, cue list and STATE slot emptied, reply slot and frame in flight kept, error
window and counters cleared (R166, R176); a window that runs goes on as though nothing had been offered (R162). -/
def Link.restarted (l : Link) : Link :=
  { l with haltSlot := none, cueList := [], stateSlot := none, offer := none, arrivals := 0, badArrivals := 0,
           linkPoor := false, counters := Counters.zero }

/-- The effects of an accepted RESTART, in the order of R184; the straps are read at the levels given. -/
def State.restarted (straps : Station) (s : State) : State :=
  let s := s.endRecording
  { s with
    store := s.store.discardDownload
    next := NextSlot.empty
    running := RunningSlot.idle
    blend := s.blend.restarted
    stick := Stick.reset
    peers := Peers.reset
    trigger := Trigger.reset
    mark := s.mark.restarted
    halt := Halt.reset
    port := s.port.restarted
    link := s.link.restarted
    start := { record := none, staged := none, station := straps } }

/-- RESTART's outcome (R183); the reply carries the station number as newly read. -/
def restartAnswer (straps : Station) (s : State) : Answer :=
  if s.store.compacting then s.answer .busy
  else if s.halt.station = .halting ∨ (s.halt.station = .run ∧ s.running.state ≠ .idle) then s.answer .wrongState
  else (s.restarted straps).done [stationByte straps]

/-- The part is deaf to a RESTART as to any arrival, but that one meant for this station is taken while the own frame is
in flight, which then runs to its end (R166, log 28). -/
def State.deafToRestart (header : ReqHeader) (s : State) : Bool :=
  if header.target = stationByte s.own ∧ header.sender ≠ s.own then !s.pins.rstn else s.deaf

/-- RESTART (R183, R184). -/
def execRestart (header : ReqHeader) (args : Sized Unit) (straps : Station) (s : State) :
    Host.Outcome State Fault Refusal :=
  .next
    (s.arriveUnless (s.deafToRestart header) header.sender
      (State.takeRequest header 0x03 (State.withArgs args fun _ => restartAnswer straps)))

end Sys2Proof.Machine
end

