-- ==== Sys2Proof/Machine/StatusRequests.lean ====
section
/-! DEFINITION. STATUS_READ of the own station (R142) and of a peer (R110), COUNTERS_READ (R175) and the answer to an unknown
request kind (R172). -/

namespace Sys2Proof.Machine

/-! The own status, R142 and chapter 11. -/

/-- Offsets 0 to 6: halt control. While the halt record is absent only the origin, 255, is given; offsets 4 to 6 are a free
value (log 31). -/
def Halt.statusBytes (h : Halt) : List Byte :=
  [stationStateCode h.station, h.causes, h.epoch] ++
  match h.record with
  | some r => [stationByte r.origin, r.entryCauses, r.originCauses, r.entryEpoch]
  | none => [255, Config.absentHaltField 4, Config.absentHaltField 5, Config.absentHaltField 6]

/-- Offsets 7 to 17: the drive port. Bits 3..7 of offset 11, to which the table gives no meaning, are 0 (log 32). -/
def Port.statusBytes (p : Port) : List Byte :=
  int32 p.measured ++ [bits8 [p.status = .fault, p.posLimit, p.negLimit]] ++ nat32 p.error ++
  [nat8 p.missRun, nat8 p.followingRun]

/-- Offsets 18 to 25: the blend and limit stage. -/
def Blend.statusBytes (b : Blend) : List Byte := int32 (roundAuCapped b.x) ++ int32 b.v

/-- Offsets 26 and 27: the NEXT slot, state in bits 0..1, start condition in bit 2, preset in bits 3..7. -/
def NextSlot.statusBytes (n : NextSlot) : List Byte :=
  [nat8 ((nextStateCode n.state).toNat + 4 * (startConditionCode n.condition).toNat + 8 * n.preset.val), n.cueId]

/-- Offsets 28 to 48: the RUNNING slot, state in bits 0..1 and mode in bits 2..3 of the first byte, whose bits 4..7 have no
meaning and are 0 (log 32). -/
def RunningSlot.statusBytes (r : RunningSlot) : List Byte :=
  [nat8 ((cueStateCode r.state).toNat + 4 * (modeCode r.mode).toNat), r.cueId, presetByte r.preset,
   nat8 r.passesLeft] ++ nat24 (r.cueTime / 65536) ++ nat24 r.paceEff ++ nat24 r.ability ++ nat16 r.takeWeight ++
  nat16 r.catchWeight ++ int32 (roundAu r.trimOffset)

/-- Offsets 49 to 55: the stick record. -/
def Stick.statusBytes (k : Stick) : List Byte :=
  [stationField k.owner] ++ be16 (BitVec.ofInt 16 k.deflection) ++
  [nat8 k.gain, nat8 k.holdAge, k.ownerSequence, nat8 k.contest]

/-- Offsets 56 and 57: the mark unit. -/
def Mark.statusBytes (m : Mark) : List Byte := [levelsByte m.accepted, latchedByte m.latched]

/-- The match standing's code: 0 not in MATCH or set aside, 1 out, 2 in (chapter 11). -/
def State.standingCode (s : State) : Nat :=
  if s.record.markMode ≠ .pattern then 0
  else match s.mark.standing with
    | .setAside => 0
    | .out => 1
    | .inMatch => 2

/-- Offsets 58 and 59: the status bits. Bits 13..15 have no meaning and are 0 (log 32). -/
def State.statusBits (s : State) : Half :=
  flagIf s.blend.atLimit 0 ||| flagIf s.running.peerLost 1 ||| flagIf (0 < s.stick.contest) 2 |||
  flagIf s.stick.lapsed 3 ||| flagIf s.link.linkPoor 4 ||| flagIf s.store.compacting 5 |||
  flagIf s.store.download.isSome 6 ||| flagIf s.store.recording.isSome 7 ||| flagIf s.frozen 8 |||
  (BitVec.ofNat 16 (stickPhaseCode s.stick.phase).toNat <<< 9) ||| (BitVec.ofNat 16 s.standingCode <<< 11)

/-- The 60 bytes of the own status (R142, chapter 11). -/
def State.ownStatus (s : State) : List Byte :=
  s.halt.statusBytes ++ s.port.statusBytes ++ s.blend.statusBytes ++ s.next.statusBytes ++ s.running.statusBytes ++
  s.stick.statusBytes ++ s.mark.statusBytes ++ be16 s.statusBits

/-! The peer status, R110 and chapter 11. -/

/-- The coupling value of the last expiry, 0 with the blind bit clear when none stands (R110). -/
def Peers.couplingValue (p : Peers) : Nat :=
  match p.coupling with
  | some c => c.value
  | none => 0

/-- The 35 bytes of the status of peer n (R110, chapter 11). Bits 4..7 of offset 29 have no meaning and are 0 (log 32). -/
def State.peerStatus (n : Station) (s : State) : List Byte :=
  let r := s.peers.records[n]
  [stationByte n] ++ reportBytes r.report ++
  [nat8 r.age, bits8 [r.present, r.fresh, r.mismatch, s.peers.coupleBlind], stationField s.record.couplingSource] ++
  nat32 s.peers.couplingValue

/-- STATUS_READ's outcome for the station byte carried, if any (R110, R142). -/
def statusAnswer (named : Option Byte) (s : State) : Answer :=
  match named with
  | none => s.done s.ownStatus
  | some b =>
    match stationOf b with
    | none => s.answer .badRequest
    | some n => if n = s.own then s.done s.ownStatus else s.done (s.peerStatus n)

/-- STATUS_READ naming no station, or a station byte (R142). -/
def execStatusRead (header : ReqHeader) (args : Sized (Option Byte)) (s : State) : Host.Outcome State Fault Refusal :=
  .next (s.request header 0x04 (State.withArgs args statusAnswer))

/-- STATUS_READ naming a station's number, which is answered from the peer table unless it is the own (R110, R142). -/
def execStatusReadPeer (header : ReqHeader) (station : Station) (s : State) : Host.Outcome State Fault Refusal :=
  .next (s.request header 0x04 (statusAnswer (some (stationByte station))))

/-! COUNTERS_READ. -/

/-- COUNTERS_READ's outcome (R175): the values are taken, then cleared where the flag is on. -/
def countersAnswer (clear : Byte) (s : State) : Answer :=
  match switchOf clear with
  | none => s.answer .badRequest
  | some true => (s.mapCounters fun _ => Counters.zero).done (counterBytes s.link.counters)
  | some false => s.done (counterBytes s.link.counters)

/-- COUNTERS_READ (R175). -/
def execCountersRead (header : ReqHeader) (args : Sized Byte) (s : State) : Host.Outcome State Fault Refusal :=
  .next (s.request header 0x05 (State.withArgs args countersAnswer))

/-- UNKNOWN_REQUEST_KIND (R172): BAD_REQUEST, echoing the kind byte as received (R188). -/
def execUnknownRequestKind (header : ReqHeader) (kind : Byte) (s : State) : Host.Outcome State Fault Refusal :=
  .next (s.request header kind fun s => s.answer .badRequest)

end Sys2Proof.Machine
end

