-- ==== Sys2Proof/Machine/StickFrames.lean ====
section
/-! DEFINITION. STICK: ownership, acceptance, release, contest, the sequence check and the abandoning of a seek (R34, R82 to
R87, R94). -/

namespace Sys2Proof.Machine

/-- The gap of the owner's frame: the sequence numbers skipped, modulo 256 (R87). -/
def sequenceGap (sequence previous : Byte) : Nat := (sequence - previous - 1).toNat

/-- The sequence check of a frame from the owner (R87). -/
def State.checkSequence (sender : Station) (sequence : Byte) (s : State) : State :=
  if s.stick.owner = some sender then
    (s.countGap (sequenceGap sequence s.stick.ownerSequence)).setStick { s.stick with ownerSequence := sequence }
  else s

/-- The stick record with a deflection accepted (R84). -/
def Stick.accept (k : Stick) (c : Channel) : Stick :=
  { k with deflection := deflectionOf c.deflection, gain := c.gain.toNat, holdAge := 0, phase := .live }

/-- An accepted deflection past the take threshold abandons a seek in RUN (R34, R94). -/
def State.abandonSeek (s : State) : State :=
  if s.halt.station = .run ∧ s.record.takeThreshold < s.stick.deflection.natAbs then
    s.setNext s.next.backToLoaded
  else s

/-- A claim: the sender becomes owner and the deflection is accepted (R83, R84). -/
def State.claim (sender : Station) (sequence : Byte) (c : Channel) (s : State) : State :=
  (s.setStick { s.stick.accept c with owner := some sender, ownerSequence := sequence, lapsed := false }).abandonSeek

/-- A release by the owner (R85). -/
def State.releaseStick (s : State) : State :=
  s.setStick { s.stick with owner := none, deflection := 0, phase := .zero, holdAge := 255 }

/-- A contest (R86). -/
def State.contestStick (s : State) : State := (s.countContest).setStick { s.stick with contest := 100 }

/-- The selected channel, by the owner, the sender and RELEASE (R83). -/
def State.decideChannel (sender : Station) (sequence : Byte) (c : Channel) (s : State) : State :=
  match s.stick.owner with
  | none => if channelReleased c then s else s.claim sender sequence c
  | some o =>
    if o = sender then
      if channelReleased c then s.releaseStick else (s.setStick (s.stick.accept c)).abandonSeek
    else s.contestStick

/-- The first channel whose target is the own station (R82). -/
def selectChannel (own : Station) (channels : List Channel) : Option Channel :=
  channels.find? fun c => c.target = stationByte own

/-- What a STICK frame does past the number test (R82). -/
def State.actStick (sender : Station) (sequence : Byte) (channels : List Channel) (s : State) : State :=
  if s.halt.station = .config ∨ channels.length < 1 ∨ 4 < channels.length then s
  else
    let s := s.checkSequence sender sequence
    match selectChannel s.own channels with
    | none => s
    | some c => s.decideChannel sender sequence c

/-- STICK (R82). -/
def execStick (sender : Station) (sequence : Byte) (channels : List Channel) (s : State) :
    Host.Outcome State Fault Refusal :=
  .next (s.arrive sender (State.actStick sender sequence channels))

end Sys2Proof.Machine
end

