-- ==== Sys2Proof/Machine/StoreRequests.lean ====
section
/-! DEFINITION. The preset store's requests and COMPACTION_COMPLETE (R7 to R9, R16 to R23). -/

namespace Sys2Proof.Machine

/-! Download. -/

/-- The store with a download opened (R7). -/
def Store.openDownload (st : Store) (owner : Station) (p : Preset) (n : Nat) (f : ModeFields) : Store :=
  let st := st.freeIfReady p
  { st with
    directory := st.directory.set p
      { state := .loading, first := st.hwm, count := n, fields := f, truncated := false }
    hwm := st.hwm + n
    download := some { owner := owner, preset := p, nextIndex := 0, lapse := 0 } }

/-- PRESET_OPEN's outcome (R7); the reply carries first. -/
def openAnswer (requester : Station) (a : OpenArgs) (s : State) : Answer :=
  match presetOf a.preset, modeFieldsOf a.fields with
  | some p, some f =>
    if ¬ (2 ≤ a.count.toNat ∧ a.count.toNat ≤ 1024) then s.answer .badRequest
    else if ¬ s.frozen then s.answer .wrongState
    else if s.store.download.isSome ∨ s.store.recording.isSome ∨ s.store.compacting then s.answer .busy
    else if s.referenced p then s.answer .inUse
    else if 1024 < s.store.hwm + a.count.toNat then s.answer .full
    else
      (s.setStore (s.store.openDownload requester p a.count.toNat f)).done
        (nat16 ((s.store.openDownload requester p a.count.toNat f).entry p).first)
  | _, _ => s.answer .badRequest

/-- PRESET_OPEN (R7). -/
def execPresetOpen (header : ReqHeader) (args : Sized OpenArgs) (s : State) : Host.Outcome State Fault Refusal :=
  .next (s.request header 0x10 (State.withArgs args (openAnswer header.sender)))

/-- The lapse count restarts at 0 (R8). -/
def Download.restarted (d : Download) : Download := { d with lapse := 0 }

/-- KEYFRAME_WRITE's outcome for the owner of the open download, past the first three checks of R8. -/
def writeOwned (d : Download) (start : Nat) (ks : List Keyframe) (s : State) : Answer :=
  let e := s.store.entry d.preset
  let kept := s.setStore { s.store with download := some d.restarted }
  if start ≠ d.nextIndex then { after := kept, code := .sequence, results := nat16 d.nextIndex }
  else if e.count < start + ks.length then kept.answer .range
  else
    (s.setStore
      { s.store with
        pool := s.store.pool.writeAll (e.first + start) ks
        download := some { d.restarted with nextIndex := d.nextIndex + ks.length } }).done
      (nat16 (d.nextIndex + ks.length))

/-- KEYFRAME_WRITE's outcome (R8). -/
def writeAnswer (requester : Station) (a : WriteArgs) (s : State) : Answer :=
  match presetOf a.preset, keyframesOf a.keyframes with
  | some p, some ks =>
    if ¬ (a.start.toNat ≤ 1023 ∧ 1 ≤ ks.length ∧ ks.length ≤ 4) then s.answer .badRequest
    else match s.store.download with
      | none => s.answer .wrongState
      | some d =>
        if d.preset ≠ p then s.answer .wrongState
        else if d.owner ≠ requester then s.answer .notOwner
        else writeOwned d a.start.toNat ks s
  | _, _ => s.answer .badRequest

/-- KEYFRAME_WRITE (R8). -/
def execKeyframeWrite (header : ReqHeader) (args : Sized WriteArgs) (s : State) : Host.Outcome State Fault Refusal :=
  .next (s.request header 0x11 (State.withArgs args (writeAnswer header.sender)))

/-- PRESET_CLOSE's outcome for the owner of the open download of p (R9). -/
def closeOwned (d : Download) (s : State) : Answer :=
  let e := s.store.entry d.preset
  match closeFailure s.record.lo s.record.hi e.count d.nextIndex (s.store.keyframes d.preset) with
  | none =>
    (s.setStore { s.store.setEntry d.preset { e with state := .ready } with download := none }).done []
  | some (check, index) =>
    { after := s.setStore { s.store.free d.preset with download := none }, code := .rejected
      results := nat8 check :: nat16 index }

/-- PRESET_CLOSE's outcome (R9). -/
def closeAnswer (requester : Station) (preset : Byte) (s : State) : Answer :=
  match presetOf preset with
  | none => s.answer .badRequest
  | some p =>
    match s.store.download with
    | none => s.answer .wrongState
    | some d =>
      if d.preset ≠ p then s.answer .wrongState
      else if d.owner ≠ requester then s.answer .notOwner
      else closeOwned d s

/-- PRESET_CLOSE (R9). -/
def execPresetClose (header : ReqHeader) (args : Sized Byte) (s : State) : Host.Outcome State Fault Refusal :=
  .next (s.request header 0x12 (State.withArgs args (closeAnswer header.sender)))

/-! Erasing and editing. -/

/-- PRESET_ERASE's outcome (R16); the reply carries HWM after the erase. -/
def eraseAnswer (preset : Byte) (s : State) : Answer :=
  match presetOf preset with
  | none => s.answer .badRequest
  | some p =>
    if s.store.compacting then s.answer .busy
    else if s.referenced p then s.answer .inUse
    else match (s.store.entry p).state with
      | .loading => s.answer .inUse
      | .recording => s.answer .inUse
      | .empty => s.done (nat16 s.store.hwm)
      | .ready => (s.setStore (s.store.free p)).done (nat16 (s.store.free p).hwm)

/-- PRESET_ERASE (R16). -/
def execPresetErase (header : ReqHeader) (args : Sized Byte) (s : State) : Host.Outcome State Fault Refusal :=
  .next (s.request header 0x13 (State.withArgs args eraseAnswer))

/-- PRESET_EDIT's outcome (R17). -/
def editAnswer (a : EditArgs) (s : State) : Answer :=
  match presetOf a.preset, modeFieldsOf a.fields with
  | some p, some f =>
    if s.store.compacting then s.answer .busy
    else if (s.store.entry p).state ≠ .ready then s.answer .wrongState
    else if s.referenced p then s.answer .inUse
    else (s.setStore (s.store.setEntry p { s.store.entry p with fields := f })).done []
  | _, _ => s.answer .badRequest

/-- PRESET_EDIT (R17). -/
def execPresetEdit (header : ReqHeader) (args : Sized EditArgs) (s : State) : Host.Outcome State Fault Refusal :=
  .next (s.request header 0x14 (State.withArgs args editAnswer))

/-! Reading. -/

/-- The four progress bytes of a directory entry (R18, chapter 11). -/
def Store.progressBytes (st : Store) (p : Preset) : List Byte :=
  match (st.entry p).state, st.download, st.recording with
  | .loading, some d, _ => stationByte d.owner :: (nat16 d.nextIndex ++ [0])
  | .recording, _, some r => nat32 r.elapsed
  | _, _, _ => [0, 0, 0, 0]

/-- The 25 bytes of DIRECTORY_READ (R18, chapter 11). -/
def Store.directoryBytes (st : Store) (p : Preset) : List Byte :=
  [entryStateCode (st.entry p).state] ++ nat16 (st.entry p).first ++ nat16 (st.entry p).count ++
  modeBlockBytes (st.entry p).fields ++ [switchCode (st.entry p).truncated] ++ nat16 st.hwm ++ nat16 st.held ++
  st.progressBytes p

/-- DIRECTORY_READ's outcome (R18). -/
def directoryAnswer (preset : Byte) (s : State) : Answer :=
  match presetOf preset with
  | none => s.answer .badRequest
  | some p => if s.store.compacting then s.answer .busy else s.done (s.store.directoryBytes p)

/-- DIRECTORY_READ (R18). -/
def execDirectoryRead (header : ReqHeader) (args : Sized Byte) (s : State) : Host.Outcome State Fault Refusal :=
  .next (s.request header 0x15 (State.withArgs args directoryAnswer))

/-- How many keyframes of a preset's range a read finds written (R19). -/
def Store.readable (st : Store) (p : Preset) : Nat :=
  match (st.entry p).state, st.download with
  | .loading, some d => min (st.entry p).count d.nextIndex
  | _, _ => (st.entry p).count

/-- One item of KEYFRAME_READ: its relative index, and its keyframe or an absent mark (R19, chapter 11). -/
def Store.readItem (st : Store) (p : Preset) (i : Nat) : List Byte :=
  nat16 i ++
  (if i < st.readable p then 1 :: keyframeBytes (st.pool.read ((st.entry p).first + i))
   else 0 :: List.replicate 8 0)

/-- The aligned group of four that contains i, from i on and wrapping within the group (R19). -/
def readGroup (i : Nat) : List Nat := [0, 1, 2, 3].map fun j => i / 4 * 4 + (i + j) % 4

/-- KEYFRAME_READ's outcome (R19). -/
def readAnswer (a : ReadArgs) (s : State) : Answer :=
  match presetOf a.preset with
  | none => s.answer .badRequest
  | some p =>
    if 1023 < a.index.toNat then s.answer .badRequest
    else if s.store.compacting then s.answer .busy
    else if (s.store.entry p).state = .empty then s.answer .wrongState
    else if (s.store.entry p).count ≤ a.index.toNat then s.answer .range
    else s.done ((readGroup a.index.toNat).flatMap (s.store.readItem p))

/-- KEYFRAME_READ (R19). -/
def execKeyframeRead (header : ReqHeader) (args : Sized ReadArgs) (s : State) : Host.Outcome State Fault Refusal :=
  .next (s.request header 0x16 (State.withArgs args readAnswer))

/-! Compaction. -/

/-- POOL_COMPACT's outcome (R20). -/
def compactAnswer (s : State) : Answer :=
  if s.next.state ≠ .empty ∨ s.running.state ≠ .idle ∨ s.store.download.isSome ∨ s.store.recording.isSome ∨
      s.store.compacting then
    s.answer .busy
  else (s.setStore { s.store with compacting := true }).done []

/-- POOL_COMPACT (R20). -/
def execPoolCompact (header : ReqHeader) (args : Sized Unit) (s : State) : Host.Outcome State Fault Refusal :=
  .next (s.request header 0x17 (State.withArgs args fun _ => compactAnswer))

/-- The completion of a compaction: the ranges move (R21), then a deferred range check runs (R23). -/
def State.completeCompaction (s : State) : State :=
  let st := s.store.compacted
  s.setStore
    (if s.store.rangeCheckDue then { st.checkRanges s.record.lo s.record.hi with rangeCheckDue := false } else st)

/-- COMPACTION_COMPLETE (R21); with no compaction in flight none can complete (log 4). -/
def execCompactionComplete (s : State) : Host.Outcome State Fault Refusal :=
  .next (if s.pins.rstn ∧ s.store.compacting then s.completeCompaction else s)

end Sys2Proof.Machine
end

