-- ==== Sys2Proof/Machine/TriggerRequests.lean ====
section
/-! DEFINITION. The trigger unit's requests (R114, R118). -/

namespace Sys2Proof.Machine

/-- TRIGGER_ARM's outcome (R114). -/
def armAnswer (a : ArmArgs) (s : State) : Answer :=
  match triggerOf a with
  | none => s.answer .badRequest
  | some t => if s.halt.station = .config then s.answer .wrongState else (s.setTrigger t).done []

/-- TRIGGER_ARM (R114). -/
def execTriggerArm (header : ReqHeader) (args : Sized ArmArgs) (s : State) : Host.Outcome State Fault Refusal :=
  .next (s.request header 0x20 (State.withArgs args armAnswer))

/-- TRIGGER_DISARM's outcome (R118): the reply carries the state the record held. -/
def disarmAnswer (s : State) : Answer :=
  (s.setTrigger { s.trigger with state := .disarmed }).done [triggerStateCode s.trigger.state]

/-- TRIGGER_DISARM (R118). -/
def execTriggerDisarm (header : ReqHeader) (args : Sized Unit) (s : State) : Host.Outcome State Fault Refusal :=
  .next (s.request header 0x21 (State.withArgs args fun _ => disarmAnswer))

/-- TRIGGER_READ's outcome (R118). -/
def triggerReadAnswer (s : State) : Answer := s.done (triggerStateCode s.trigger.state :: triggerBytes s.trigger)

/-- TRIGGER_READ (R118). -/
def execTriggerRead (header : ReqHeader) (args : Sized Unit) (s : State) : Host.Outcome State Fault Refusal :=
  .next (s.request header 0x22 (State.withArgs args fun _ => triggerReadAnswer))

end Sys2Proof.Machine
end

