-- ==== Sys2Proof/Machine/Dispatch.lean ====
section
/-! DEFINITION. exec: the effect of a command on everything but the queue, one arm per row of the table. -/

namespace Sys2Proof.Machine

def exec (i : Instr) (s : State) : Host.Outcome State Fault Refusal :=
  match i with
  | .powerOnReset straps => Sys2Proof.Machine.execPowerOnReset straps s
  | .rstnAssert => Sys2Proof.Machine.execRstnAssert s
  | .rstnRelease straps => Sys2Proof.Machine.execRstnRelease straps s
  | .controlPeriodExpiry => Sys2Proof.Machine.execControlPeriodExpiry s
  | .seekCompletion => Sys2Proof.Machine.execSeekCompletion s
  | .passEnd => Sys2Proof.Machine.execPassEnd s
  | .haltComplete => Sys2Proof.Machine.execHaltComplete s
  | .downloadLapse => Sys2Proof.Machine.execDownloadLapse s
  | .ownerLapse => Sys2Proof.Machine.execOwnerLapse s
  | .contestExpiry => Sys2Proof.Machine.execContestExpiry s
  | .configExchangeInterval => Sys2Proof.Machine.execConfigExchangeInterval s
  | .markSample levels => Sys2Proof.Machine.execMarkSample levels s
  | .drdyRise => Sys2Proof.Machine.execDrdyRise s
  | .exchangeComplete feedback => Sys2Proof.Machine.execExchangeComplete feedback s
  | .contentionWindow event => Sys2Proof.Machine.execContentionWindow event s
  | .transmissionComplete => Sys2Proof.Machine.execTransmissionComplete s
  | .badArrival => Sys2Proof.Machine.execBadArrival s
  | .errorWindowEnd bad => Sys2Proof.Machine.execErrorWindowEnd bad s
  | .halt sender origin causes epoch => Sys2Proof.Machine.execHalt sender origin causes epoch s
  | .resume sender epoch => Sys2Proof.Machine.execResume sender epoch s
  | .stick sender sequence channels => Sys2Proof.Machine.execStick sender sequence channels s
  | .load sender mask cueId preset condition => Sys2Proof.Machine.execLoad sender mask cueId preset condition s
  | .seek sender mask cueId => Sys2Proof.Machine.execSeek sender mask cueId s
  | .go sender mask cueId => Sys2Proof.Machine.execGo sender mask cueId s
  | .stop sender mask cueId => Sys2Proof.Machine.execStop sender mask cueId s
  | .hold sender mask cueId => Sys2Proof.Machine.execHold sender mask cueId s
  | .release sender mask cueId => Sys2Proof.Machine.execRelease sender mask cueId s
  | .loopEnd sender mask cueId => Sys2Proof.Machine.execLoopEnd sender mask cueId s
  | .recStart sender mask preset interval => Sys2Proof.Machine.execRecStart sender mask preset interval s
  | .recStop sender mask => Sys2Proof.Machine.execRecStop sender mask s
  | .state sender report haltFirst => Sys2Proof.Machine.execState sender report haltFirst s
  | .serviceReply sender => Sys2Proof.Machine.execServiceReply sender s
  | .unknownKind sender => Sys2Proof.Machine.execUnknownKind sender s
  | .ident header args => Sys2Proof.Machine.execIdent header args s
  | .startRecordWriteSection1 header args => Sys2Proof.Machine.execStartRecordWriteSection1 header args s
  | .startRecordWriteSection2 header args => Sys2Proof.Machine.execStartRecordWriteSection2 header args s
  | .restart header args straps => Sys2Proof.Machine.execRestart header args straps s
  | .statusRead header args => Sys2Proof.Machine.execStatusRead header args s
  | .statusReadPeer header station => Sys2Proof.Machine.execStatusReadPeer header station s
  | .countersRead header args => Sys2Proof.Machine.execCountersRead header args s
  | .presetOpen header args => Sys2Proof.Machine.execPresetOpen header args s
  | .keyframeWrite header args => Sys2Proof.Machine.execKeyframeWrite header args s
  | .presetClose header args => Sys2Proof.Machine.execPresetClose header args s
  | .presetErase header args => Sys2Proof.Machine.execPresetErase header args s
  | .presetEdit header args => Sys2Proof.Machine.execPresetEdit header args s
  | .directoryRead header args => Sys2Proof.Machine.execDirectoryRead header args s
  | .keyframeRead header args => Sys2Proof.Machine.execKeyframeRead header args s
  | .poolCompact header args => Sys2Proof.Machine.execPoolCompact header args s
  | .compactionComplete => Sys2Proof.Machine.execCompactionComplete s
  | .triggerArm header args => Sys2Proof.Machine.execTriggerArm header args s
  | .triggerDisarm header args => Sys2Proof.Machine.execTriggerDisarm header args s
  | .triggerRead header args => Sys2Proof.Machine.execTriggerRead header args s
  | .unknownRequestKind header kind => Sys2Proof.Machine.execUnknownRequestKind header kind s
  | .drdyFall => Sys2Proof.Machine.execDrdyFall s

end Sys2Proof.Machine
end

