-- ==== Sys2Proof/Safety.lean ====
section
/-! DEFINITION. What claims about the part are stated in: when a command is heard, what an answered request leaves, and the
invariants that every step keeps. -/

namespace Sys2Proof

/-- The header of a service request, of every kind (R172). -/
def Instr.header : Instr → Option ReqHeader
  | .ident h _ => some h
  | .startRecordWriteSection1 h _ => some h
  | .startRecordWriteSection2 h _ => some h
  | .restart h _ _ => some h
  | .statusRead h _ => some h
  | .statusReadPeer h _ => some h
  | .countersRead h _ => some h
  | .presetOpen h _ => some h
  | .keyframeWrite h _ => some h
  | .presetClose h _ => some h
  | .presetErase h _ => some h
  | .presetEdit h _ => some h
  | .directoryRead h _ => some h
  | .keyframeRead h _ => some h
  | .poolCompact h _ => some h
  | .triggerArm h _ => some h
  | .triggerDisarm h _ => some h
  | .triggerRead h _ => some h
  | .unknownRequestKind h _ => some h
  | .powerOnReset _ => none
  | .rstnAssert => none
  | .rstnRelease _ => none
  | .controlPeriodExpiry => none
  | .seekCompletion => none
  | .passEnd => none
  | .haltComplete => none
  | .downloadLapse => none
  | .ownerLapse => none
  | .contestExpiry => none
  | .configExchangeInterval => none
  | .markSample _ => none
  | .drdyRise => none
  | .exchangeComplete _ => none
  | .contentionWindow _ => none
  | .transmissionComplete => none
  | .badArrival => none
  | .errorWindowEnd _ => none
  | .halt _ _ _ _ => none
  | .resume _ _ => none
  | .stick _ _ _ => none
  | .load _ _ _ _ _ => none
  | .seek _ _ _ => none
  | .go _ _ _ => none
  | .stop _ _ _ => none
  | .hold _ _ _ => none
  | .release _ _ _ => none
  | .loopEnd _ _ _ => none
  | .recStart _ _ _ _ => none
  | .recStop _ _ => none
  | .state _ _ _ => none
  | .serviceReply _ => none
  | .unknownKind _ => none
  | .compactionComplete => none
  | .drdyFall => none

/-- The station a command's frame comes from: every kind of frame that can arrive good has one (R105, R160). -/
def Instr.sender : Instr → Option Station
  | .halt n _ _ _ => some n
  | .resume n _ => some n
  | .stick n _ _ => some n
  | .load n _ _ _ _ => some n
  | .seek n _ _ => some n
  | .go n _ _ => some n
  | .stop n _ _ => some n
  | .hold n _ _ => some n
  | .release n _ _ => some n
  | .loopEnd n _ _ => some n
  | .recStart n _ _ _ => some n
  | .recStop n _ => some n
  | .state n _ _ => some n
  | .serviceReply n => some n
  | .unknownKind n => some n
  | .ident h _ => some h.sender
  | .startRecordWriteSection1 h _ => some h.sender
  | .startRecordWriteSection2 h _ => some h.sender
  | .restart h _ _ => some h.sender
  | .statusRead h _ => some h.sender
  | .statusReadPeer h _ => some h.sender
  | .countersRead h _ => some h.sender
  | .presetOpen h _ => some h.sender
  | .keyframeWrite h _ => some h.sender
  | .presetClose h _ => some h.sender
  | .presetErase h _ => some h.sender
  | .presetEdit h _ => some h.sender
  | .directoryRead h _ => some h.sender
  | .keyframeRead h _ => some h.sender
  | .poolCompact h _ => some h.sender
  | .triggerArm h _ => some h.sender
  | .triggerDisarm h _ => some h.sender
  | .triggerRead h _ => some h.sender
  | .unknownRequestKind h _ => some h.sender
  | .powerOnReset _ => none
  | .rstnAssert => none
  | .rstnRelease _ => none
  | .controlPeriodExpiry => none
  | .seekCompletion => none
  | .passEnd => none
  | .haltComplete => none
  | .downloadLapse => none
  | .ownerLapse => none
  | .contestExpiry => none
  | .configExchangeInterval => none
  | .markSample _ => none
  | .drdyRise => none
  | .drdyFall => none
  | .exchangeComplete _ => none
  | .contentionWindow _ => none
  | .transmissionComplete => none
  | .badArrival => none
  | .errorWindowEnd _ => none
  | .compactionComplete => none

namespace Machine

/-! Hearing a frame, and answering a request. -/

/-- A good arrival from `sender` reaches the block that takes it: the part is out of reset and not driving the line
(R158, R185), and the sender is another station (R105). -/
def State.hears (s : State) (sender : Station) : Prop :=
  s.pins.rstn = true ∧ s.link.inFlight = none ∧ sender ≠ s.own

/-- The state in which a good arrival reaches its block: counted, the offer of a running window withdrawn (R161), nothing
else changed (R168). -/
def State.heard (s : State) : State := s.countArrival false

/-- A request reaches its owner: it is heard, meant for this station, and the reply slot is free (R172). -/
def State.serves (s : State) (h : ReqHeader) : Prop :=
  s.hears h.sender ∧ h.target = stationByte s.own ∧ s.link.replySlot = none

/-- The state with a reply to a request placed in the reply slot, nothing else changed (R172). -/
def State.withReply (s : State) (h : ReqHeader) (kind : Byte) (code : ReplyCode) (results : List Byte) : State :=
  s.placeReply { target := h.sender, tag := h.tag, kind := kind, code := code, results := results }

/-- A cue frame acts at this station: it is heard, and the station is in its mask (R29). -/
def State.cued (s : State) (sender : Station) (mask : StationMask) : Prop :=
  s.hears sender ∧ maskHas mask s.own = true

/-- The handover of an expiry raises no DRIVE_LOST: it replaces no waiting record, or the miss it counts is not the third
in a row (R146, R149). -/
def State.handsOverQuietly (s : State) : Prop := s.port.pendingRecord = none ∨ s.port.missRun ≠ 2

/-- A RESTART reaches the steps of R172: it is meant for this station and comes from another, whether or not the own frame
is in flight (R166, log 28). -/
def State.restartMeant (s : State) (h : ReqHeader) : Prop :=
  s.pins.rstn = true ∧ h.sender ≠ s.own ∧ h.target = stationByte s.own

/-- One of the four mark lines, by its number (R120). -/
def Lines.at {α : Type} (l : Lines α) (n : Fin 4) : α :=
  match n with
  | 0 => l.mk0
  | 1 => l.mk1
  | 2 => l.mk2
  | 3 => l.mk3

/-- Every field of a report lies where its place in the frame can carry it (R99, chapter 11). -/
structure Report.Carried (r : Report) : Prop where
  measured : -2147483648 ≤ r.measured ∧ r.measured ≤ 2147483647
  velocity : -2147483648 ≤ r.velocity ∧ r.velocity ≤ 2147483647
  flags : r.flags &&& namedFlags = r.flags
  controlPeriod : r.controlPeriod = 0 ∨ 500 ≤ r.controlPeriod ∧ r.controlPeriod ≤ 4000
  cueTime : r.cueTime ≤ 16777215
  ability : r.ability ≤ 65536

/-- What an arrival leaves in the error window, by R170: `bad` is 1 for a bad arrival. -/
def State.windowAfter (s t : State) (bad : Nat) : Prop :=
  if s.start.record.isSome = true ∧ s.record.windowSize ≤ min (s.link.arrivals + 1) 65535 then
    t.link.arrivals = 0 ∧ t.link.badArrivals = 0 ∧
    t.link.linkPoor = decide (s.record.badThreshold ≤ min (s.link.badArrivals + bad) 65535)
  else
    t.link.arrivals = min (s.link.arrivals + 1) 65535 ∧ t.link.badArrivals = min (s.link.badArrivals + bad) 65535 ∧
    t.link.linkPoor = s.link.linkPoor

/-- What stands once the cue of NEXT has started over state s, with the participants given (R36, R37). -/
def State.cueStarted (s t : State) (participants : StationMask) : Prop :=
  let p := s.next.preset
  let f := (s.store.entry p).fields
  let p0 := (s.store.pool.read (s.store.entry p).first).position * 65536
  let away := s.record.startWindow * 65536 < (s.blend.x - p0).natAbs
  t.running =
    { state := .playing, preset := p, cueId := s.next.cueId, mode := f.mode, trimRange := f.trimRange,
      fadeStep := f.fadeStep, handbackDelay := f.handbackDelay, cycle := f.cycle, participants := participants, seen := 0,
      passesLeft := f.passes, cueTime := 0, freshStart := true, paceEff := 0, ability := 65536, peerLost := false,
      takeWeight := 0, shadow := p0, handback := 0, trimOffset := 0, catchWeight := if away then 4096 else 0,
      catchOrigin := if away then s.blend.x else 0 } ∧
  t.next = { state := .empty, preset := 0, cueId := 255, condition := .waitGo } ∧
  t.blend = { s.blend with taking := false }

/-- The causes a valid feedback raises: a new limit flag, a FAULT status, and the following run just reaching fe_count. -/
def State.feedbackRaises (s : State) (sent : Setpoint) (fb : RawFeedback) : Causes :=
  (if (fb.limits.getLsbD 0 = true ∧ s.port.posLimit = false) ∨ (fb.limits.getLsbD 1 = true ∧ s.port.negLimit = false)
    then causeLimitSwitch else 0) |||
  (if fb.status = 0xA5 then causeDriveFault else 0) |||
  (if s.halt.station ≠ .config ∧ s.record.feLimit < (sent.position - fb.measured.toInt).natAbs ∧
      s.port.followingRun ≠ s.record.feCount ∧ min (s.port.followingRun + 1) 255 = s.record.feCount
    then causeFollowing else 0)

/-! The invariant of the station state: what each station state says about the other blocks. -/

/-- The facts that tie the blocks to the station state and to one another. -/
structure State.ModeSound (s : State) : Prop where
  /-- No cause stands in RUN (R129 to R131, R137, R141). -/
  runClear : s.halt.station = .run → s.halt.causes = 0
  /-- Only NUMBER_CLASH is latched in CONFIG (R128). -/
  configCauses : s.halt.station = .config → s.halt.causes &&& ~~~causeNumberClash = 0
  /-- Outside CONFIG the record is frozen (R178). -/
  frozenOutside : s.halt.station ≠ .config → s.start.record.isSome = true
  /-- A frozen record has no staged section (R179). -/
  notStaged : s.start.record.isSome = true → s.start.staged = none
  /-- A cue runs in RUN only (R29, R53). -/
  cueInRun : s.halt.station ≠ .run → s.running.state = .idle
  /-- An IDLE slot holds the IDLE values (R26). -/
  idleValues : s.running.state = .idle → s.running = RunningSlot.idle
  /-- An EMPTY slot holds the EMPTY values (R25). -/
  emptyValues : s.next.state = .empty → s.next = NextSlot.empty
  /-- In CONFIG nothing is loaded (R54). -/
  configEmpty : s.halt.station = .config → s.next.state = .empty
  /-- A seek stands in RUN, with no cue playing (R32, R47, R53). -/
  seekInRun : s.next.state = .seeking ∨ s.next.state = .ready →
    s.halt.station = .run ∧ s.running.state = .idle
  /-- The take target is 4096 only while a cue plays (R55). -/
  takeInCue : s.blend.taking = true → s.running.state ≠ .idle
  /-- The axis is at rest in CONFIG and HALTED (R78 to R80, R133). -/
  atRest : s.halt.station = .config ∨ s.halt.station = .halted → s.blend.v = 0
  /-- The trigger is ARMED in RUN only, and DISARMED in CONFIG (R113, R114, R119). -/
  armedInRun : s.trigger.state = .armed → s.halt.station = .run
  configDisarmed : s.halt.station = .config → s.trigger.state = .disarmed
  /-- A station that halts or is halted holds a halt record (R127). -/
  haltRecord : s.halt.station = .halting ∨ s.halt.station = .halted → s.halt.record.isSome = true
  /-- A recording runs in RUN only (R11, R15). -/
  recordingInRun : s.store.recording.isSome = true → s.halt.station = .run
  /-- A download is open only while the record is frozen (R7, R24). -/
  downloadFrozen : s.store.download.isSome = true → s.start.record.isSome = true
  /-- At most one of download, recording and compaction is in progress (chapter 1). -/
  oneInProgress : (s.store.download.isSome = true → s.store.recording = none ∧ s.store.compacting = false) ∧
    (s.store.recording.isSome = true → s.store.compacting = false)
  /-- The slots are empty while a compaction is in flight (R20, R22). -/
  compactingIdle : s.store.compacting = true → s.next.state = .empty ∧ s.running.state = .idle
  /-- A range check is put off only to the completion of a compaction in flight (R23). -/
  checkPutOff : s.store.rangeCheckDue = true → s.store.compacting = true
  /-- While RSTN is held low nothing waits, nothing is in flight and nothing is moved (R155, R166, R185). -/
  heldInReset : s.pins.rstn = false →
    s.link.haltSlot = none ∧ s.link.cueList = [] ∧ s.link.stateSlot = none ∧ s.link.replySlot = none ∧
    s.link.inFlight = none ∧ s.port.pendingRecord = none ∧ s.port.inFlight = none ∧ s.store.compacting = false

/-! The invariant of the counts and weights. -/

/-- The position fits a signed 32-bit field, in au (R145). -/
abbrev inRange32 (p : Int) : Prop := -2147483648 ≤ p ∧ p ≤ 2147483647

/-- The counts, weights, ages, runs, lists and errors named below stay within the ranges their rules state, with what those
ranges rest on. -/
structure State.Bounded (s : State) : Prop where
  /-- R174. -/
  counters : s.link.counters.rxGood ≤ 65535 ∧ s.link.counters.rxBad ≤ 65535 ∧ s.link.counters.outDrop ≤ 65535 ∧
    s.link.counters.reqDrop ≤ 65535 ∧ s.link.counters.cueMiss ≤ 65535 ∧ s.link.counters.stickContest ≤ 65535 ∧
    s.link.counters.stickGap ≤ 65535 ∧ s.link.counters.driveMiss ≤ 65535 ∧ s.link.counters.loadLapse ≤ 65535
  /-- R170. -/
  window : s.link.arrivals ≤ 65535 ∧ s.link.badArrivals ≤ s.link.arrivals
  /-- R164. -/
  cueList : s.link.cueList.length ≤ 4
  /-- R26, R48, R50. -/
  ability : s.running.paceEff ≤ s.running.ability ∧ s.running.ability ≤ 65536
  /-- R26, R64, R67. -/
  weights : s.running.takeWeight ≤ 4096 ∧ s.running.catchWeight ≤ 4096
  /-- R26, R63. -/
  handback : s.running.handback ≤ 65535
  /-- R26, R62. -/
  trim : s.running.trimOffset.natAbs ≤ s.running.trimRange * 65536
  /-- R81, R82. -/
  stick : s.stick.contest ≤ 100 ∧ s.stick.holdAge ≤ 255 ∧ s.stick.gain ≤ 255 ∧ s.stick.deflection.natAbs ≤ 32767
  /-- R81, R85, R89. -/
  noOwner : s.stick.owner = none → s.stick.deflection = 0 ∧ s.stick.phase = .zero
  /-- R98, R101. -/
  peers : ∀ n : Station, s.peers.records[n].age ≤ 255 ∧ s.peers.records[n].report.ability ≤ 65536 ∧
    (s.peers.records[n].present = false → s.peers.records[n] = PeerRecord.absent)
  /-- R26, and the passes an entry supplies (R5). -/
  passes : (1 ≤ s.running.passesLeft ∧ s.running.passesLeft ≤ 255) ∧
    ∀ p : Preset, 1 ≤ (s.store.entry p).fields.passes ∧ (s.store.entry p).fields.passes ≤ 255
  /-- R14: a recording whose elapsed count reaches 16,777,216 ends. -/
  elapsed : ∀ r, s.store.recording = some r → r.elapsed ≤ 16777215
  /-- R145. -/
  port : s.port.missRun ≤ 255 ∧ s.port.followingRun ≤ 255 ∧ s.port.error ≤ 4294967295
  /-- R75, R78, R145: the positions that the error is formed from. -/
  positions : inRange32 s.port.measured ∧ (∀ p, s.port.pendingRecord = some p → inRange32 p.position) ∧
    ∀ p, s.port.inFlight = some p → inRange32 p.position
  /-- R177: a soft limit is a signed 32-bit value. -/
  lowerLimit : (∀ r, s.start.record = some r → -2147483648 ≤ r.lo) ∧ ∀ q, s.start.staged = some q → -2147483648 ≤ q.lo
  /-- R71, R73, R78: the setpoint stays a signed 32-bit position from below, for outside the soft range it moves upwards
  only. -/
  setpoint : -2147483648 * 65536 ≤ s.blend.x ∧ (s.blend.x < s.record.lo * 65536 → 0 ≤ s.blend.v) ∧
    (s.halt.station = .config → s.blend.v = 0)
  /-- R10: a download that reaches 2000 lapses. -/
  lapse : ∀ d, s.store.download = some d → d.lapse < 2000

/-! The invariant of the preset store. -/

/-- Two ranges do not overlap (R2). -/
def DirEntry.apart (a b : DirEntry) : Prop := a.first + a.count ≤ b.first ∨ b.first + b.count ≤ a.first

/-- The pool and the directory agree (R2 to R6). -/
structure Store.Sound (st : Store) : Prop where
  /-- The pool keeps its canonical form (log 15). -/
  canonical : st.pool.wf = true
  /-- HWM ≤ 1024 (R2). -/
  hwm : st.hwm ≤ 1024
  /-- Every range lies wholly below HWM (R2). -/
  below : ∀ p : Preset, (st.entry p).state ≠ .empty → (st.entry p).first + (st.entry p).count ≤ st.hwm
  /-- The ranges of non-EMPTY entries do not overlap (R2). -/
  apart : ∀ p q : Preset, p ≠ q → (st.entry p).state ≠ .empty → (st.entry q).state ≠ .empty →
    (st.entry p).apart (st.entry q)
  /-- An EMPTY entry holds the EMPTY values (R5). -/
  emptyValues : ∀ p : Preset, (st.entry p).state = .empty → st.entry p = DirEntry.empty
  /-- A READY entry holds at least two keyframes (R5, R9, R15). -/
  ready : ∀ p : Preset, (st.entry p).state = .ready → 2 ≤ (st.entry p).count
  /-- A LOADING entry is that of the open download, and its range ends at HWM (R3, R7). -/
  loading : ∀ p : Preset, (st.entry p).state = .loading →
    2 ≤ (st.entry p).count ∧ (st.entry p).first + (st.entry p).count = st.hwm ∧
    ∃ d, st.download = some d ∧ d.preset = p
  /-- A RECORDING entry is that of the recording, and its range ends at HWM (R3, R12). -/
  recording : ∀ p : Preset, (st.entry p).state = .recording →
    1 ≤ (st.entry p).count ∧ (st.entry p).first + (st.entry p).count = st.hwm ∧
    ∃ r, st.recording = some r ∧ r.preset = p
  /-- The open download is that of a LOADING entry, with no more keyframes written than reserved (R7, R8). -/
  download : ∀ d, st.download = some d → (st.entry d.preset).state = .loading ∧ d.nextIndex ≤ (st.entry d.preset).count
  /-- The recording is that of a RECORDING entry (R12). -/
  recorder : ∀ r, st.recording = some r → (st.entry r.preset).state = .recording

/-- The store is sound, and every preset a cue slot references is READY (R6). -/
structure State.StoreSound (s : State) : Prop where
  store : s.store.Sound
  referenced : ∀ p : Preset, s.referenced p = true → (s.store.entry p).state = .ready

/-! The invariant of the stored moves. -/

/-- A list of keyframes can be played: the first is at time 0 and the times strictly increase (R9). -/
def playable (ks : List Keyframe) : Prop :=
  (ks.headD Keyframe.blank).time = 0 ∧ ks.Pairwise fun a b => a.time < b.time

/-- Every position lies within the soft range of the start record (R9, R23). -/
def insideRange (r : StartRecord) (ks : List Keyframe) : Prop := ∀ k ∈ ks, r.lo ≤ k.position ∧ k.position ≤ r.hi

/-- Every READY preset, and the recording so far, holds what the blend can play (R9, R13 to R15, R23). -/
structure State.ContentSound (s : State) : Prop where
  /-- R177, field 7. -/
  softRange : ∀ r, s.start.record = some r → r.lo < r.hi
  stagedRange : ∀ q, s.start.staged = some q → q.lo < q.hi
  /-- R9. -/
  playable : ∀ p : Preset, (s.store.entry p).state = .ready → playable (s.store.keyframes p)
  /-- R9, R23: within [lo, hi] of the frozen record, but for a check that a compaction in flight puts off. -/
  inside : ∀ (p : Preset) (r : StartRecord), s.start.record = some r → s.store.rangeCheckDue = false →
    (s.store.entry p).state = .ready → insideRange r (s.store.keyframes p)
  /-- R12, R13: the keyframes captured so far, the last of them at the last capture time. -/
  captured : ∀ r : Recording, s.store.recording = some r →
    Machine.playable (s.store.keyframes r.preset) ∧ insideRange s.record (s.store.keyframes r.preset) ∧
    ((s.store.keyframes r.preset).getLastD Keyframe.blank).time = r.lastCapture ∧ r.lastCapture ≤ r.elapsed

end Machine

end Sys2Proof
end

