-- ==== Sys2Proof/Certificates/Slice0/Obligations.lean ====
section
/-! DEFINITION. The statements about the KD-740 for the provers. A statement about a command concludes that exec answers a
next state and says what stands in it. `s.heard` is the state in which a good arrival reaches its block: s with the arrival
counted and the offer of a running window withdrawn, which GoodArrivalIsCounted says in full. -/

section Statements

open Sys2Proof Sys2Proof.Machine

/-! The queue, and the step. -/

/-- A step takes the command at the front of the queue and answers its outcome. -/
def Obligations.StepRunsTheFrontCommand : Prop :=
  ∀ (c : Instr) (rest : List Instr) (s : State), step (s.setPending (c :: rest)) = exec c (s.setPending rest)

/-- Every command completes, in every state, and leaves the queue to the step: no fault and no refusal. -/
def Obligations.EveryCommandCompletes : Prop :=
  ∀ (c : Instr) (s : State), ∃ t, exec c s = .next t ∧ t.pending = s.pending

/-! The invariants. -/

/-- After a reset, whatever the straps and the pins, every invariant holds. -/
def Obligations.ResetMeetsTheInvariants : Prop :=
  ∀ (straps : Station) (pins : Pins), let s := State.afterReset straps pins
    s.ModeSound ∧ s.Bounded ∧ s.StoreSound ∧ s.ContentSound

/-- Every step keeps what each station state says about the other blocks. -/
def Obligations.StepKeepsModeSound : Prop := ∀ s t : State, s.ModeSound → step s = .next t → t.ModeSound

/-- Every step keeps within their ranges: the nine traffic counters, the counts of the error window, the cue list's length,
pace and ability, the take and catch weights, the handback count, the trim offset, the passes remaining, the stick record's
contest count, hold age, gain and deflection, the ages and abilities of the peer records, the miss run, the following run, the
following error, the lapse count of a download and the elapsed count of a recording. With them go the facts these rest on: the
passes of every entry, the positions measured, waiting and in flight, the lower soft limit, the setpoint's bound from below,
and the values of a stick record without an owner and of an absent peer record. -/
def Obligations.StepKeepsBounded : Prop := ∀ s t : State, s.Bounded → step s = .next t → t.Bounded

/-- Every step keeps the ranges of the pool apart and below HWM, the pool in its canonical form, and every referenced
preset READY. -/
def Obligations.StepKeepsStoreSound : Prop :=
  ∀ s t : State, s.ModeSound → s.StoreSound → step s = .next t → t.StoreSound

/-- Every step keeps every READY preset playable and, under a frozen record, within its soft range. -/
def Obligations.StepKeepsPresetsPlayable : Prop :=
  ∀ s t : State, s.ModeSound → s.StoreSound → s.ContentSound → step s = .next t → t.ContentSound

/-! The line: bursts and the commands they spell. -/

/-- A HALT, GO, STOP or reply as this part sends it is read by another part as the command it stands for. -/
def Obligations.OwnFramesDecode : Prop :=
  ∀ (n own straps : Station) (first : Bool),
    (∀ f : HaltFrame, decodeArrival own straps first (InFlight.bytes { key := keyOf 0 n, frame := .halt f }) =
      .halt n (stationByte f.origin) f.causes f.epoch) ∧
    (∀ (m : StationMask) (id : Byte),
      decodeArrival own straps first (InFlight.bytes { key := keyOf 1 n, frame := .cue (.go m id) }) = .go n m id ∧
      decodeArrival own straps first (InFlight.bytes { key := keyOf 1 n, frame := .cue (.stop m id) }) = .stop n m id) ∧
    ∀ r : Reply, r.results.length ≤ 60 →
      decodeArrival own straps first (InFlight.bytes { key := keyOf 3 n, frame := .reply r }) = .serviceReply n

/-- A STATE report as this part sends it is read by another part as a STATE command that carries the same report. -/
def Obligations.OwnReportDecodes : Prop :=
  ∀ (n own straps : Station) (first : Bool) (r : Report), r.Carried →
    ∃ raw, decodeArrival own straps first (InFlight.bytes { key := keyOf 2 n, frame := .state r }) = .state n raw first ∧
      reportOf raw = some r

/-- A burst is a good arrival exactly when it is delimiter, key, kind, a length of 64 or less, that many payload bytes,
and the CRC of R159 over all but the delimiter. -/
def Obligations.GoodArrivalsAreRecognised : Prop :=
  ∀ (own straps : Station) (first : Bool) (burst : List Byte),
    decodeArrival own straps first burst ≠ .badArrival ↔
      ∃ (key kind len hi lo : Byte) (payload : List Byte),
        burst = 0xB3 :: key :: kind :: len :: (payload ++ [hi, lo]) ∧ len.toNat ≤ 64 ∧
        payload.length = len.toNat ∧ hi ++ lo = crc16 (key :: kind :: len :: payload)

/-! Reset. -/

/-- At the release of RSTN and at power-on every block takes its reset values and the straps are read. RSTN going low
ends what is under way: the transmission, the exchange, a compaction with its pool; and empties the outbound list (log 6).
That a power-on keeps the levels of the pins (log 14) and that a cleared pool reads blank (log 15) are the model's choices. -/
def Obligations.ResetEventsActOnEveryBlock : Prop :=
  (∀ (n : Station) (s : State), ∃ t u : State,
     exec (.rstnRelease n) s = .next t ∧ exec (.powerOnReset n) s = .next u ∧
     t.pins = { s.pins with rstn := true } ∧ u.pins = s.pins ∧
     ∀ w, w = t ∨ w = u →
       (∀ p : Preset, w.store.entry p =
         { state := .empty, first := 0, count := 0, truncated := false
           fields := { mode := .play, trimRange := 0, fadeStep := 64, handbackDelay := 500, passes := 1,
                       cycle := false } }) ∧
       (∀ i, w.store.pool.read i = Keyframe.blank) ∧
       w.store.hwm = 0 ∧ w.store.download = none ∧ w.store.recording = none ∧ w.store.compacting = false ∧
       w.next = { state := .empty, preset := 0, cueId := 255, condition := .waitGo } ∧
       w.running = { state := .idle, preset := 0, cueId := 255, mode := .play, trimRange := 0, fadeStep := 64,
                     handbackDelay := 500, cycle := false, participants := 0, seen := 0, passesLeft := 1, cueTime := 0,
                     freshStart := false, paceEff := 0, ability := 65536, peerLost := false, takeWeight := 0,
                     shadow := 0, handback := 0, trimOffset := 0, catchWeight := 0, catchOrigin := 0 } ∧
       w.blend = { x := 0, v := 0, atLimit := false, taking := false } ∧
       w.stick = { owner := none, deflection := 0, gain := 0, holdAge := 255, phase := .zero, ownerSequence := 0,
                   contest := 0, lapsed := false } ∧
       (∀ m : Station, w.peers.records[m] =
         { present := false, age := 255, mismatch := false
           report := { axisKind := none, state := .config, epoch := 0, causes := 0, measured := 0, velocity := 0,
                       flags := 0, controlPeriod := 0, cueId := 255, cueState := .idle, cueTime := 0, ability := 65536,
                       stickOwner := none, nextId := 255, nextState := .empty } }) ∧ w.peers.coupling = none ∧
       w.trigger = { state := .disarmed, watched := 0, sense := .rising, threshold := 0, hysteresis := 0, cueId := 255,
                     mask := 0 } ∧
       (∀ k : Fin 4, w.mark.lines.at k = { previous := none, accepted := none }) ∧ w.mark.standing = .out ∧
       w.mark.latched = none ∧
       w.halt = { station := .config, causes := 0, epoch := 0, record := none } ∧
       w.port.pendingRecord = none ∧ w.port.inFlight = none ∧ w.port.nextSequence = 0 ∧ w.port.feedbackSeen = false ∧
       w.port.measured = 0 ∧ w.port.status = .ok ∧ w.port.posLimit = false ∧ w.port.negLimit = false ∧
       w.port.error = 0 ∧ w.port.lastExchange = .valid ∧ w.port.missRun = 0 ∧ w.port.followingRun = 0 ∧
       w.link.haltSlot = none ∧ w.link.cueList = [] ∧ w.link.stateSlot = none ∧ w.link.replySlot = none ∧
       w.link.inFlight = none ∧ w.link.arrivals = 0 ∧ w.link.badArrivals = 0 ∧ w.link.linkPoor = false ∧
       w.link.counters = Counters.zero ∧
       w.start = { record := none, staged := none, station := n }) ∧
  (∀ s : State, ∃ t, exec .rstnAssert s = .next t ∧ t.pins = { s.pins with rstn := false } ∧
     t.link.inFlight = none ∧ t.link.haltSlot = none ∧ t.link.cueList = [] ∧ t.link.stateSlot = none ∧
     t.link.replySlot = none ∧ t.link.counters = s.link.counters ∧
     t.port = { s.port with pendingRecord := none, inFlight := none } ∧
     (s.store.compacting = true → t.store = Store.reset) ∧ (s.store.compacting = false → t.store = s.store) ∧
     t = (((s.setPins t.pins).setLink t.link).setPort t.port).setStore t.store)

/-! Arrivals. -/

/-- A good arrival that no block takes, a reply or a frame of unknown kind, is counted, withdraws the offer of a window that
runs, and changes nothing else; that is the state every good arrival is taken in. While RSTN is low no arrival, no window,
no mark sample, no timer and no feedback acts (log 5). While the own frame is in flight no arrival is judged, but a RESTART
meant for this station, and no window opens (log 12, log 28). -/
def Obligations.GoodArrivalIsCounted : Prop :=
  (∀ (n : Station) (s : State), s.hears n → ∃ t,
     exec (.serviceReply n) s = .next t ∧ exec (.unknownKind n) s = .next t ∧ t = s.heard ∧
     t.link.counters = { s.link.counters with rxGood := min (s.link.counters.rxGood + 1) 65535 } ∧
     s.windowAfter t 0 ∧
     t = s.setLink { s.link with counters := t.link.counters, arrivals := t.link.arrivals,
                                 badArrivals := t.link.badArrivals, linkPoor := t.link.linkPoor, offer := none }) ∧
  (∀ (c : Instr) (s : State), s.pins.rstn = false →
     (c.sender.isSome = true ∨ c = .badArrival ∨ (∃ b, c = .errorWindowEnd b) ∨ (∃ e, c = .contentionWindow e) ∨
       (∃ l, c = .markSample l) ∨ (∃ fb, c = .exchangeComplete fb) ∨
       c ∈ [.controlPeriodExpiry, .seekCompletion, .passEnd, .haltComplete, .downloadLapse, .ownerLapse, .contestExpiry,
            .configExchangeInterval, .compactionComplete]) →
     exec c s = .next s) ∧
  (∀ (c : Instr) (s : State), s.link.inFlight.isSome = true →
     (c.sender.isSome = true ∧ (∀ h args straps, c = .restart h args straps → ¬ s.restartMeant h) ∨
       c = .badArrival ∨ (∃ b, c = .errorWindowEnd b) ∨ (∃ e, c = .contentionWindow e)) →
     exec c s = .next s)

/-- A bad arrival is counted and dropped, and withdraws the offer of a window that runs. The arrival that reaches N under a frozen record ends the error window. -/
def Obligations.BadArrivalsAndTheErrorWindow : Prop :=
  (∀ s : State, s.pins.rstn = true → s.link.inFlight = none → ∃ t, exec .badArrival s = .next t ∧
     t.link.counters = { s.link.counters with rxBad := min (s.link.counters.rxBad + 1) 65535 } ∧
     s.windowAfter t 1 ∧
     t = s.setLink { s.link with counters := t.link.counters, arrivals := t.link.arrivals,
                                 badArrivals := t.link.badArrivals, linkPoor := t.link.linkPoor, offer := none }) ∧
  (∀ (bad : Bool) (s : State), s.pins.rstn = true → s.link.inFlight = none → s.start.record.isSome = true →
     s.record.windowSize ≤ min (s.link.arrivals + 1) 65535 → ∃ t, exec (.errorWindowEnd bad) s = .next t ∧
       t.link.arrivals = 0 ∧ t.link.badArrivals = 0 ∧
       (t.link.linkPoor = true ↔ s.record.badThreshold ≤ min (s.link.badArrivals + bad.toNat) 65535) ∧
       t.link.counters =
         (if bad then { s.link.counters with rxBad := min (s.link.counters.rxBad + 1) 65535 }
          else { s.link.counters with rxGood := min (s.link.counters.rxGood + 1) 65535 }) ∧
       t = s.setLink { s.link with counters := t.link.counters, arrivals := 0, badArrivals := 0,
                                   linkPoor := t.link.linkPoor, offer := none })

/-- A good arrival from the own station number, of whatever kind, is discarded, and NUMBER_CLASH is raised: a local
fault in RUN, latched in every other state. -/
def Obligations.OwnNumberIsAClash : Prop :=
  ∀ (c : Instr) (s : State), c.sender = some s.own → s.pins.rstn = true → s.link.inFlight = none → ∃ t,
    exec c s = .next t ∧
    (s.halt.station = .run → t = s.heard.localFault causeNumberClash) ∧
    (s.halt.station ≠ .run →
      t = s.heard.setHalt { s.halt with causes := s.halt.causes ||| causeNumberClash })

/-! Causes and halts. -/

/-- A local cause raised in RUN: latched, recorded, HALTING entered, and one HALT frame placed. A cause raised outside
RUN is latched without a halt record, a change of state or a HALT frame; in CONFIG only NUMBER_CLASH is. -/
def Obligations.RaisedCausesAreTaken : Prop :=
  (∀ (c : Causes) (s : State), c ≠ 0 → s.halt.station = .run → s.raise c = s.localFault c ∧
     (s.localFault c).halt =
       { station := .halting, causes := s.halt.causes ||| c, epoch := s.halt.epoch,
         record := some { origin := s.own, entryCauses := c, originCauses := c, entryEpoch := s.halt.epoch } } ∧
     (s.localFault c).link.haltSlot = some { origin := s.own, causes := c, epoch := s.halt.epoch } ∧
     s.localFault c =
       (s.enterHalting.setHalt (s.localFault c).halt).setLink
         { s.enterHalting.link with haltSlot := (s.localFault c).link.haltSlot }) ∧
  (∀ (c : Causes) (s : State),
     (s.halt.station = .halting ∨ s.halt.station = .halted →
       s.raise c = s.setHalt { s.halt with causes := s.halt.causes ||| c }) ∧
     (s.halt.station = .config →
       s.raise c = s.setHalt { s.halt with causes := s.halt.causes ||| (c &&& causeNumberClash) }))

/-- What each block does at the entry to HALTING, and what the entry leaves as it stands. -/
def Obligations.EntryToHalting : Prop :=
  ∀ s : State, let t := s.enterHalting
    t.halt = { s.halt with station := .halting } ∧
    t.running = RunningSlot.idle ∧
    (s.next.state = .seeking ∨ s.next.state = .ready → t.next = { s.next with state := .loaded }) ∧
    (s.next.state = .empty ∨ s.next.state = .loaded → t.next = s.next) ∧
    t.blend = { s.blend with taking := false } ∧
    t.trigger = { s.trigger with state := .disarmed } ∧
    t.store = s.endRecording.store ∧ t.store.recording = none ∧ t.store.download = s.store.download ∧
    t.store.compacting = s.store.compacting ∧
    (s.store.recording = none → t.store = s.store ∧ t.link = s.link) ∧
    t.stick = s.stick ∧ t.peers = s.peers ∧ t.mark = s.mark ∧ t.port = s.port ∧ t.start = s.start ∧
    t.link.haltSlot = s.link.haltSlot ∧ t.link.cueList = s.link.cueList ∧ t.link.stateSlot = s.link.stateSlot ∧
    t.link.replySlot = s.link.replySlot ∧ t.link.inFlight = s.link.inFlight ∧ t.pending = s.pending

/-- A HALT frame halts a station in RUN whatever its epoch, is latched as REMOTE at a station that halts, and has no
effect in CONFIG; one with an origin above 15 is discarded. -/
def Obligations.HaltFrameHalts : Prop :=
  ∀ (sender : Station) (origin causes epoch : Byte) (s : State), s.hears sender → ∃ t,
    exec (.halt sender origin causes epoch) s = .next t ∧
    (16 ≤ origin.toNat → t = s.heard) ∧
    (∀ o : Station, origin = stationByte o →
      (s.halt.station = .run →
        t = (s.heard.enterHalting).setHalt
          { station := .halting, causes := s.halt.causes ||| causeRemote, epoch := s.halt.epoch,
            record := some { origin := o, entryCauses := causeRemote, originCauses := causes,
                             entryEpoch := s.halt.epoch } }) ∧
      (s.halt.station = .halting ∨ s.halt.station = .halted →
        t = s.heard.setHalt { s.halt with causes := s.halt.causes ||| causeRemote }) ∧
      (s.halt.station = .config → t = s.heard))

/-- A RESUME sets the epoch in every state; at a HALTED station it removes the causes whose condition holds and, when
none is left, takes the station to RUN with v at 0. -/
def Obligations.ResumeClearsAndReturns : Prop :=
  ∀ (sender : Station) (epoch : Byte) (s : State), s.hears sender → ∃ t,
    exec (.resume sender epoch) s = .next t ∧
    (s.halt.station ≠ .halted → t = s.heard.setHalt { s.halt with epoch := epoch }) ∧
    (s.halt.station = .halted →
      t.halt.causes = s.halt.causes &&&
        (causeNumberClash ||| (if s.port.error ≤ s.record.feLimit then 0 else causeFollowing) |||
          (if s.port.lastExchange = .valid then 0 else causeDriveLost) |||
          (if s.port.status = .ok then 0 else causeDriveFault)) ∧
      t.halt.epoch = epoch ∧ t.halt.record = s.halt.record ∧
      t.halt.station = (if t.halt.causes = 0 then .run else .halted) ∧
      t.blend = (if t.halt.causes = 0 then { s.blend with v := 0 } else s.blend) ∧
      t = (s.heard.setHalt t.halt).setBlend t.blend)

/-! The control period timer. -/

/-- At each expiry in RUN the setpoint is driven by the source of R27 through the limit stage: the stick in MANUAL, the
seek target, or the running cue with its mode and its catch-in, whose trim offset, handback count, take target, take weight,
shadow and catch weight are stored as R62 to R67 compute them. At each expiry the setpoint just stored goes to the drive
port under the next sequence: rounded to au, enable on, the halting flag set in HALTING and HALTED. What the limit stage
makes of a target is LimitStageClamps, the cue time of the expiry PaceIsGoverned, the store after a download's lapse
SilentOwnersLapse, and the coupling value PeerTableAtAnExpiry. -/
def Obligations.ExpiryMovesTheAxis : Prop :=
  (∀ s : State, s.pins.rstn = true → s.halt.station = .run → ∃ t, exec .controlPeriodExpiry s = .next t ∧
     (let run := s.running
      let r := s.record
      let st := s.ageExpiry.store
      let seeks : Bool := decide (run.state = .idle) && (decide (s.next.state = .seeking) || decide (s.next.state = .ready))
      let p0 := (st.pool.read (st.entry s.next.preset).first).position * 65536
      let coupled := match r.couplingSource, t.peers.coupling with
        | some _, some c => min r.vmax c.value
        | _, _ => r.vmax
      let guarded := if s.link.linkPoor then coupled * r.guardFactor / 256 else coupled
      let l : Limits :=
        { vlim := if seeks then min guarded r.vseek else guarded, amax := r.amax, lo := r.lo * 65536, hi := r.hi * 65536,
          seekTarget := if seeks then some p0 else none, posLimit := s.port.posLimit, negLimit := s.port.negLimit }
      let moves := fun target : Int =>
        t.blend.x = (limitStage l s.blend target).x ∧ t.blend.v = (limitStage l s.blend target).v ∧
        t.blend.atLimit = (limitStage l s.blend target).atLimit
      let live : Bool := s.stick.owner.isSome && decide (s.stick.phase ≠ .zero)
      let d : Int := if live then s.stick.deflection else 0
      let vs : Int := if live then stickVelocity r s.stick.gain s.stick.deflection else 0
      let T := s.ageExpiry.cueExpiry.running.cueTime
      let P := presetPosition (st.keyframes run.preset) T
      let trim := min (max (run.trimOffset + vs) (-(run.trimRange * 65536))) (run.trimRange * 65536)
      let count := if r.takeThreshold < d.natAbs then 0 else if r.deadband < d.natAbs then run.handback
        else min (run.handback + 1) 65535
      let taking := if r.takeThreshold < d.natAbs then true else if r.deadband < d.natAbs then s.blend.taking
        else if run.handbackDelay ≠ 65535 ∧ run.handbackDelay ≤ count then false else s.blend.taking
      let w := if taking then (if live then min (run.takeWeight + run.fadeStep) 4096 else run.takeWeight)
        else run.takeWeight - run.fadeStep
      let y := if w = 0 then P else min (max (run.shadow + vs) (r.lo * 65536)) (r.hi * 65536)
      let base := match run.mode with
        | .play => P
        | .trim => P + trim
        | .take => P + (y - P) * (w : Int) / 4096
      let target := if 0 < run.catchWeight then base + (run.catchOrigin - base) * (run.catchWeight : Int) / 4096 else base
      (run.state = .idle → s.next.state = .empty ∨ s.next.state = .loaded → moves (s.blend.x + vs)) ∧
      (run.state = .idle → s.next.state = .seeking ∨ s.next.state = .ready → moves p0) ∧
      (run.state ≠ .idle → moves target ∧
        (s.StoreSound → s.handsOverQuietly → s.passEnds = false ∨ run.cycle = true ∨ 1 < run.passesLeft →
          t.running.trimOffset = (if run.mode = .trim then trim else run.trimOffset) ∧
          t.running.handback = (if run.mode = .take then count else run.handback) ∧
          t.blend.taking = (if run.mode = .take then taking else s.blend.taking) ∧
          t.running.takeWeight = (if run.mode = .take then w else run.takeWeight) ∧
          t.running.shadow = (if run.mode = .take then y else run.shadow) ∧
          (s.passEnds = false → t.running.catchWeight = run.catchWeight - r.catchStep ∧
            t.running.catchOrigin = run.catchOrigin))))) ∧
  (∀ s : State, s.pins.rstn = true → s.halt.station ≠ .config → ∃ t r, exec .controlPeriodExpiry s = .next t ∧
     (t.port.pendingRecord = some r ∨ t.port.inFlight = some r) ∧
     r.sequence = s.port.nextSequence ∧ t.port.nextSequence = s.port.nextSequence + 1 ∧
     r.position = min ((t.blend.x + 32768) / 65536) 2147483647 ∧ r.velocity = t.blend.v ∧ r.enable = true ∧
     (r.halting = true ↔ s.halt.station = .halting ∨ s.halt.station = .halted))

/-- An expiry in HALTING moves v toward 0 by a_halt, and the one that stores v = 0 makes the station HALTED:
HALT_COMPLETE is that expiry. An expiry in HALTED keeps x, stores v = 0 and clears AT_LIMIT. -/
def Obligations.HaltingComesToRestAndHolds : Prop :=
  (∀ s : State, s.pins.rstn = true → s.halt.station = .halting → ∃ t, exec .controlPeriodExpiry s = .next t ∧
     t.blend = travelClamp (fu s.record.lo) (fu s.record.hi) s.blend
       (if 0 < s.blend.v then max 0 (s.blend.v - s.record.aHalt)
        else if s.blend.v < 0 then min 0 (s.blend.v + s.record.aHalt) else 0) ∧
     (t.halt.station = .halted ↔ t.blend.v = 0) ∧ (t.halt.station = .halting ↔ t.blend.v ≠ 0) ∧
     t.halt.epoch = s.halt.epoch ∧ t.halt.record = s.halt.record ∧
     (t.blend.v = 0 → exec .haltComplete s = .next t) ∧ (t.blend.v ≠ 0 → exec .haltComplete s = .next s) ∧
     t.running = s.running ∧ t.next = s.next ∧ t.trigger = s.trigger ∧ t.mark = s.mark ∧ t.start = s.start) ∧
  (∀ s : State, s.pins.rstn = true → s.halt.station = .halted → ∃ t, exec .controlPeriodExpiry s = .next t ∧
     t.blend = { s.blend with v := 0, atLimit := false } ∧ t.halt.station = .halted ∧ t.halt.epoch = s.halt.epoch ∧
     t.halt.record = s.halt.record ∧ t.running = s.running ∧ t.next = s.next ∧ t.trigger = s.trigger ∧
     t.mark = s.mark ∧ t.start = s.start)

/-- While DRIVE_LOST is latched and no valid feedback came since the previous expiry, the expiry makes the STATE report,
with the state and velocity that its computation has left, and no other expiry makes one: the causes are those the expiry
finds, before its own handover (log 9). -/
def Obligations.LostDriveIsReportedAtExpiries : Prop :=
  ∀ s : State, s.pins.rstn = true → s.halt.station ≠ .config → ∃ t, exec .controlPeriodExpiry s = .next t ∧
    (s.halt.causes &&& causeDriveLost = causeDriveLost → s.port.validSinceExpiry = false →
      ∃ r, t.link.stateSlot = some r ∧ r.state = (s.ageExpiry.computeExpiry s.stickSupply).halt.station ∧
        r.velocity = t.blend.v ∧ r.epoch = s.halt.epoch ∧ r.causes = s.halt.causes ∧ r.measured = s.port.measured) ∧
    (¬ (s.halt.causes &&& causeDriveLost = causeDriveLost ∧ s.port.validSinceExpiry = false) →
      t.link.stateSlot = s.link.stateSlot)

/-- A setpoint within the soft range before an expiry is within it after, whatever the state and the source. The
magnitude of v never exceeds vmax, and v changes by at most amax in RUN and a_halt in HALTING but where the travel clamp
acts. -/
def Obligations.SetpointAndVelocityStayWithinLimits : Prop :=
  (∀ s : State, s.pins.rstn = true → s.halt.station ≠ .config →
     s.record.lo * 65536 ≤ s.blend.x → s.blend.x ≤ s.record.hi * 65536 → ∃ t, exec .controlPeriodExpiry s = .next t ∧
       s.record.lo * 65536 ≤ t.blend.x ∧ t.blend.x ≤ s.record.hi * 65536) ∧
  (∀ s : State, s.pins.rstn = true → s.halt.station ≠ .config → s.record.guardFactor ≤ 256 →
     s.blend.v.natAbs ≤ s.record.vmax → ∃ t, exec .controlPeriodExpiry s = .next t ∧
       t.blend.v.natAbs ≤ s.record.vmax ∧
       (s.halt.station = .run → t.blend.atLimit = false → (t.blend.v - s.blend.v).natAbs ≤ s.record.amax) ∧
       (s.halt.station = .halting → t.blend.atLimit = false → (t.blend.v - s.blend.v).natAbs ≤ s.record.aHalt))

/-- The rate limit, the braking envelopes, the limit flags, the two clamps and the travel clamp: the envelope is the exact
floor square root, capped at 2^62; the velocity of a computation lies within one amax of the last, within what is allowed
wherever that can be reached within one amax, and reaches the target where that is allowed and within one amax. -/
def Obligations.LimitStageClamps : Prop :=
  (∀ (l : Limits) (b : Blend) (target : Int),
     (l.posLimit = true → l.allowedPos b.x = 0) ∧ (l.negLimit = true → l.allowedNeg b.x = 0) ∧
     (l.hi ≤ b.x → l.allowedPos b.x = 0) ∧ (b.x ≤ l.lo → l.allowedNeg b.x = 0) ∧
     l.allowedPos b.x ≤ l.vlim ∧ l.allowedNeg b.x ≤ l.vlim ∧
     (b.x < l.hi → l.allowedPos b.x * l.allowedPos b.x ≤ 2 * l.amax * (l.hi - b.x).toNat) ∧
     (l.lo < b.x → l.allowedNeg b.x * l.allowedNeg b.x ≤ 2 * l.amax * (b.x - l.lo).toNat) ∧
     (∀ p, l.seekTarget = some p → b.x < p → l.allowedPos b.x * l.allowedPos b.x ≤ 2 * l.amax * (p - b.x).toNat) ∧
     (∀ p, l.seekTarget = some p → p < b.x → l.allowedNeg b.x * l.allowedNeg b.x ≤ 2 * l.amax * (b.x - p).toNat) ∧
     b.v - l.amax ≤ l.velocity b.x b.v target ∧ l.velocity b.x b.v target ≤ b.v + l.amax ∧
     (b.v - l.amax ≤ l.allowedPos b.x → l.velocity b.x b.v target ≤ l.allowedPos b.x) ∧
     (-(l.allowedNeg b.x : Int) ≤ b.v + l.amax → -(l.allowedNeg b.x : Int) ≤ l.velocity b.x b.v target)) ∧
  (∀ (amax : Nat) (d : Int),
     (d ≤ 0 → envelope amax d = 0) ∧
     (0 < d → envelope amax d * envelope amax d ≤ min (2 * amax * d.toNat) (2 ^ 62) ∧
       min (2 * amax * d.toNat) (2 ^ 62) < (envelope amax d + 1) * (envelope amax d + 1))) ∧
  (∀ (l : Limits) (b : Blend) (target : Int),
     let v := l.velocity b.x b.v target
     (l.posLimit = false → l.allowedPos b.x = min (min l.vlim (envelope l.amax (l.hi - b.x)))
       (match l.seekTarget with
        | some p => if b.x < p then envelope l.amax (p - b.x) else l.vlim
        | none => l.vlim)) ∧
     (l.negLimit = false → l.allowedNeg b.x = min (min l.vlim (envelope l.amax (b.x - l.lo)))
       (match l.seekTarget with
        | some p => if p < b.x then envelope l.amax (b.x - p) else l.vlim
        | none => l.vlim)) ∧
     v = min (max (min (max (target - b.x) (-(l.allowedNeg b.x : Int))) (l.allowedPos b.x)) (b.v - l.amax)) (b.v + l.amax) ∧
     (-(l.allowedNeg b.x : Int) ≤ target - b.x → target - b.x ≤ l.allowedPos b.x →
       (target - b.x - b.v).natAbs ≤ l.amax → v = target - b.x) ∧
     (b.x ≤ l.hi → l.hi < b.x + v →
       limitStage l b target = { b with x := l.hi, v := l.hi - b.x, atLimit := true }) ∧
     (¬ (b.x ≤ l.hi ∧ l.hi < b.x + v) → l.lo ≤ b.x → b.x + v < l.lo →
       limitStage l b target = { b with x := l.lo, v := l.lo - b.x, atLimit := true }) ∧
     (¬ (b.x ≤ l.hi ∧ l.hi < b.x + v) → ¬ (l.lo ≤ b.x ∧ b.x + v < l.lo) →
       limitStage l b target = { b with x := b.x + v, v := v, atLimit := false }))

/-- P(T) lies on the segment of the keyframes that holds T, at the shaped fraction of that segment, and stands at the
last position from the last keyframe's time on. -/
def Obligations.PresetPositionFollowsTheKeyframes : Prop :=
  ∀ (ks : List Keyframe), playable ks → ks ≠ [] → ∀ T : Nat,
    ((ks.getLastD Keyframe.blank).time * 65536 ≤ T →
      presetPosition ks T = (ks.getLastD Keyframe.blank).position * 65536) ∧
    ∀ (k : Nat) (hk : k + 1 < ks.length), ks[k].time * 65536 ≤ T → T < ks[k + 1].time * 65536 →
      presetPosition ks T = ks[k].position * 65536 + (ks[k + 1].position - ks[k].position) *
        ((match ks[k].shape with
          | .linear => (T - ks[k].time * 65536) / (ks[k + 1].time - ks[k].time)
          | .ease =>
            (3 * ((T - ks[k].time * 65536) / (ks[k + 1].time - ks[k].time)) ^ 2 * 65536 -
              2 * ((T - ks[k].time * 65536) / (ks[k + 1].time - ks[k].time)) ^ 3) / 2 ^ 32
          | .hold => 0 : Nat) : Int)

/-- Stick shaping at its edges: full deflection gives the full rate at the gain, the rate never passes vstick, it does
not decrease with the deflection, the first count past the deadband, and gain 0 or vstick 0. -/
def Obligations.StickShapingEdges : Prop :=
  ∀ (r : StartRecord) (gain : Nat), r.deadband ≤ 8191 → r.expo ≤ 256 → gain ≤ 255 →
    shapedRate r gain 32767 = gain * r.vstick / 255 ∧
    (∀ m ≤ 32767, shapedRate r gain m ≤ r.vstick) ∧
    (∀ m n, m ≤ n → n ≤ 32767 → shapedRate r gain m ≤ shapedRate r gain n) ∧
    (∀ m ≤ r.deadband, shapedRate r gain m = 0) ∧
    (0 < r.expo → shapedRate r gain (r.deadband + 1) = 0) ∧
    (gain = 0 ∨ r.vstick = 0 → ∀ m, shapedRate r gain m = 0) ∧
    (∀ d : Int, stickVelocity r gain d = d.sign * (shapedRate r gain d.natAbs : Int))

/-- The work of the running cue at an expiry: the own ability, the pace governed over the participants with the lead
hold, and the advance of T, which keeps T within the pass; who is a participant, who is lost, the demand and the rate
available to the cue; and that an expiry in RUN stores what this work computes, on the peer records as this expiry has aged
them. That a marked peer is not lost is the model's reading of R52 (log 18). -/
def Obligations.PaceIsGoverned : Prop :=
  (∀ s : State, s.running.state ≠ .idle →
     let t := s.cueExpiry
     (s.running.state = .held → t.running.ability = 0 ∧ t.running.paceEff = 0) ∧
     (s.running.state = .playing → t.running.ability = (if s.demand ≤ s.cueRate then 65536
       else max 1024 (65536 * s.cueRate / s.demand)) ∧ 1024 ≤ t.running.ability) ∧
     t.running.paceEff ≤ t.running.ability ∧
     (∀ n : Station, s.participant n = true → t.running.paceEff ≤ s.peers.records[n].report.ability) ∧
     ((∃ n : Station, s.participant n = true ∧
         s.peers.records[n].report.cueTime + s.peers.records[n].age * s.peers.records[n].report.ability / 65536 + 4 <
           s.running.cueTime / 65536) → t.running.paceEff = 0) ∧
     (¬ (∃ n : Station, s.participant n = true ∧
         s.peers.records[n].report.cueTime + s.peers.records[n].age * s.peers.records[n].report.ability / 65536 + 4 <
           s.running.cueTime / 65536) →
       t.running.paceEff = t.running.ability ∨
       ∃ n : Station, s.participant n = true ∧ t.running.paceEff = s.peers.records[n].report.ability) ∧
     (t.running.peerLost = true ↔ ∃ n : Station, s.lost n = true) ∧
     (s.running.freshStart = true → t.running.cueTime = 0) ∧
     (s.running.freshStart = false → t.running.cueTime = min (s.running.cueTime + t.running.paceEff)
       (((s.store.keyframes s.running.preset).getLastD Keyframe.blank).time * 65536)) ∧
     t.running.freshStart = false) ∧
  (∀ (s : State) (n : Station), let q := s.peers.records[n]
     (s.participant n = true ↔
       s.running.participants.getLsbD n.val = true ∧ n ≠ s.own ∧ s.running.seen.getLsbD n.val = true ∧
       q.present = true ∧ q.age ≤ 8 ∧ q.report.cueId = s.running.cueId ∧
       (q.report.cueState = .playing ∨ q.report.cueState = .held) ∧
       q.report.controlPeriod = s.record.controlPeriod ∧ q.mismatch = false) ∧
     (s.lost n = true ↔
       s.running.participants.getLsbD n.val = true ∧ n ≠ s.own ∧ q.mismatch = false ∧
       (q.present = false ∨ 8 < q.age ∨ s.running.seen.getLsbD n.val = false))) ∧
  (∀ s : State,
     s.demand = (presetPosition (s.store.keyframes s.running.preset) (s.running.cueTime + 65536) -
       presetPosition (s.store.keyframes s.running.preset) s.running.cueTime).natAbs ∧
     s.cueRate =
       (let coupled := match s.record.couplingSource, s.peers.coupling with
          | some _, some c => min s.record.vmax c.value
          | _, _ => s.record.vmax
        if s.link.linkPoor then coupled * s.record.guardFactor / 256 else coupled)) ∧
  (∀ s : State, s.pins.rstn = true → s.halt.station = .run → s.running.state ≠ .idle → ∃ t,
     exec .controlPeriodExpiry s = .next t ∧
     (let aged := s.ageExpiry
      let u := aged.cueExpiry
      aged.running = s.running ∧ aged.start = s.start ∧ aged.link.linkPoor = s.link.linkPoor ∧
      aged.peers = t.peers ∧
      (s.StoreSound → s.handsOverQuietly → s.passEnds = false ∨ s.running.cycle = true ∨ 1 < s.running.passesLeft →
        t.running.ability = u.running.ability ∧ t.running.paceEff = u.running.paceEff ∧
        t.running.peerLost = u.running.peerLost ∧ t.running.participants = s.running.participants ∧
        t.running.seen = s.running.seen ∧ t.running.state = s.running.state ∧
        (s.passEnds = false → t.running.cueTime = u.running.cueTime ∧ t.running.freshStart = false))))

/-- SEEK_COMPLETION is the expiry at which the stored setpoint and velocity meet the seek test: NEXT becomes READY. At an
expiry in RUN with NEXT SEEKING the test decides: NEXT becomes READY where it holds, and stays SEEKING where it fails. -/
def Obligations.SeekCompletes : Prop :=
  (∀ s : State, s.StoreSound → s.seekCompletes = true → s.port.pendingRecord = none → ∃ t,
     exec .seekCompletion s = .next t ∧ exec .controlPeriodExpiry s = .next t ∧
     s.next.state = .seeking ∧ t.next = { s.next with state := .ready } ∧
     (t.blend.x - t.store.startPosition s.next.preset).natAbs ≤ s.record.startWindow * 65536 ∧
     t.blend.v.natAbs ≤ s.record.amax ∧ t.running = s.running ∧ t.halt = s.halt ∧ t.start = s.start) ∧
  (∀ s : State, s.StoreSound → s.pins.rstn = true → s.halt.station = .run → s.running.state = .idle →
     s.next.state = .seeking → s.handsOverQuietly → ∃ t, exec .controlPeriodExpiry s = .next t ∧
       (let p0 := (t.store.pool.read (t.store.entry s.next.preset).first).position * 65536
        ((t.blend.x - p0).natAbs ≤ s.record.startWindow * 65536 → t.blend.v.natAbs ≤ s.record.amax →
          t.next = { s.next with state := .ready } ∧ exec .seekCompletion s = .next t) ∧
        (s.record.startWindow * 65536 < (t.blend.x - p0).natAbs ∨ s.record.amax < t.blend.v.natAbs →
          t.next = s.next ∧ exec .seekCompletion s = .next s)))

/-- PASS_END is the expiry at which T reaches the last keyframe: the pass restarts, or the cue ends and a waiting FOLLOW
cue starts with its participants as GoStartsTheCue says of a GO, the catch-in decided by the setpoint just stored. -/
def Obligations.PassEnds : Prop :=
  ∀ s : State, s.StoreSound → s.passEnds = true → s.port.pendingRecord = none → ∃ t,
    exec .passEnd s = .next t ∧ exec .controlPeriodExpiry s = .next t ∧
    (s.running.cycle = true ∨ 1 < s.running.passesLeft →
      t.next = s.next ∧ t.running.state = s.running.state ∧ t.running.cueId = s.running.cueId ∧
      t.running.preset = s.running.preset ∧ t.running.participants = s.running.participants ∧
      t.running.passesLeft = (if s.running.cycle then max 1 (s.running.passesLeft - 1) else s.running.passesLeft - 1) ∧
      t.running.cueTime = 0 ∧ t.running.freshStart = true ∧
      (t.running.catchWeight = 4096 ∧ t.running.catchOrigin = t.blend.x ∧
          s.record.startWindow * 65536 < (t.blend.x - t.store.startPosition s.running.preset).natAbs ∨
        t.running.catchWeight = 0 ∧
          (t.blend.x - t.store.startPosition s.running.preset).natAbs ≤ s.record.startWindow * 65536)) ∧
    (¬ (s.running.cycle = true ∨ 1 < s.running.passesLeft) →
      (s.next.state = .loaded ∧ s.next.condition = .follow →
        (s.setBlend t.blend).cueStarted t s.running.participants) ∧
      (¬ (s.next.state = .loaded ∧ s.next.condition = .follow) →
        t.next = s.next ∧ t.running = RunningSlot.idle ∧ t.blend.taking = false)) ∧
    t.halt = s.halt

/-- The stick record ages at each expiry: hold age and phase, the lapse of a silent owner at age 100, and the contest
count; OWNER_LAPSE and CONTEST_EXPIRY are the expiries that bring the lapse and the end of the contest. While a download
is open its lapse count rises at each expiry; at 2000 the download is discarded and counted: DOWNLOAD_LAPSE is that
expiry. -/
def Obligations.SilentOwnersLapse : Prop :=
  (∀ s : State, s.pins.rstn = true → s.halt.station ≠ .config → ∃ t, exec .controlPeriodExpiry s = .next t ∧
     t.stick.holdAge = min (s.stick.holdAge + 1) 255 ∧ t.stick.contest = s.stick.contest - 1 ∧
     t.stick.gain = s.stick.gain ∧ t.stick.ownerSequence = s.stick.ownerSequence ∧
     (∀ o, s.stick.owner = some o → s.stick.holdAge ≠ 99 →
       t.stick.owner = some o ∧ t.stick.deflection = s.stick.deflection ∧ t.stick.lapsed = s.stick.lapsed ∧
       t.stick.phase = (if s.stick.holdAge + 1 ≤ 4 then .held else .zero)) ∧
     (∀ o, s.stick.owner = some o → s.stick.holdAge = 99 →
       t.stick.owner = none ∧ t.stick.deflection = 0 ∧ t.stick.lapsed = true ∧ t.stick.phase = .zero ∧
       exec .ownerLapse s = .next t) ∧
     (s.stick.contest = 1 → t.stick.contest = 0 ∧ exec .contestExpiry s = .next t)) ∧
  (∀ (s : State) (d : Download), s.ModeSound → s.pins.rstn = true → s.halt.station ≠ .config →
     s.store.download = some d → ∃ t, exec .controlPeriodExpiry s = .next t ∧
       (d.lapse + 1 < 2000 → t.store = { s.store with download := some { d with lapse := d.lapse + 1 } }) ∧
       (2000 ≤ d.lapse + 1 →
         exec .downloadLapse s = .next t ∧ t.store = { s.store.free d.preset with download := none } ∧
         t.link.counters.loadLapse = min (s.link.counters.loadLapse + 1) 65535 ∧
         t.link.replySlot = s.link.replySlot))

/-- The peer table at an expiry: every present record ages, and the coupling value is formed from the source's record,
or blind at Lmax. -/
def Obligations.PeerTableAtAnExpiry : Prop :=
  ∀ s : State, s.pins.rstn = true → s.halt.station ≠ .config → ∃ t, exec .controlPeriodExpiry s = .next t ∧
    (∀ n : Station, t.peers.records[n] =
      if s.peers.records[n].present then { s.peers.records[n] with age := min (s.peers.records[n].age + 1) 255 }
      else s.peers.records[n]) ∧
    (s.record.couplingSource = none → t.peers.coupling = none) ∧
    (∀ n : Station, s.record.couplingSource = some n →
      (t.peers.records[n].present = true ∧ t.peers.records[n].age ≤ 8 ∧ t.peers.records[n].report.state ≠ .config ∧
          t.peers.records[n].mismatch = false ∧ t.peers.records[n].report.controlPeriod = s.record.controlPeriod →
        t.peers.coupling = some
          { value := s.record.k /
              (s.record.r0 + (min (max t.peers.records[n].report.measured 0) s.record.lmax).toNat)
            blind := false }) ∧
      (¬ (t.peers.records[n].present = true ∧ t.peers.records[n].age ≤ 8 ∧
          t.peers.records[n].report.state ≠ .config ∧
          t.peers.records[n].mismatch = false ∧ t.peers.records[n].report.controlPeriod = s.record.controlPeriod) →
        t.peers.coupling = some { value := s.record.k / (s.record.r0 + s.record.lmax), blind := true }))

/-- The configuration exchange interval: present peer records age and the hold record goes to the drive, enable off; in
the other states it does not run, and the command changes nothing (log 4). -/
def Obligations.ConfigExchangeHandsTheHoldRecord : Prop :=
  ∀ s : State, s.pins.rstn = true →
    (s.halt.station = .config → ∃ t r, exec .configExchangeInterval s = .next t ∧
      (∀ n : Station, t.peers.records[n] =
        if s.peers.records[n].present then { s.peers.records[n] with age := min (s.peers.records[n].age + 1) 255 }
        else s.peers.records[n]) ∧
      r = { sequence := s.port.nextSequence, position := if s.port.feedbackSeen then s.port.measured else 0,
            velocity := 0, enable := false, halting := false } ∧
      (t.port.pendingRecord = some r ∨ t.port.inFlight = some r) ∧ t.port.nextSequence = s.port.nextSequence + 1 ∧
      t.halt = s.halt ∧ t.blend = s.blend ∧ t.running = s.running ∧ t.next = s.next ∧ t.store = s.store ∧
      t.stick = s.stick ∧ t.trigger = s.trigger ∧ t.mark = s.mark ∧ t.start = s.start ∧
      t.peers.coupling = s.peers.coupling) ∧
    (s.halt.station ≠ .config → exec .configExchangeInterval s = .next s)

/-! Stick intake. -/

/-- A STICK frame in RUN, HALTING or HALTED, by the owner and the selected channel, the first whose target is the own
station: claim, acceptance, release, contest and the sequence check; an accepted deflection past the take threshold abandons
a seek in RUN. -/
def Obligations.StickFrameIsTaken : Prop :=
  (∀ (own : Station) (channels : List Channel) (c : Channel),
     (selectChannel own channels = some c ↔ ∃ before later, channels = before ++ c :: later ∧
       c.target = stationByte own ∧ ∀ x ∈ before, x.target ≠ stationByte own)) ∧
  ∀ (sender : Station) (sequence : Byte) (channels : List Channel) (s : State), s.hears sender → ∃ t,
    exec (.stick sender sequence channels) s = .next t ∧
    (s.halt.station = .config ∨ channels.length = 0 ∨ 4 < channels.length → t = s.heard) ∧
    (s.halt.station ≠ .config → 1 ≤ channels.length → channels.length ≤ 4 →
      (selectChannel s.own channels = none →
        t.next = s.next ∧ t.stick =
          (if s.stick.owner = some sender then { s.stick with ownerSequence := sequence } else s.stick)) ∧
      (s.stick.owner = some sender → t.link.counters.stickGap =
        min (s.link.counters.stickGap + (sequence - s.stick.ownerSequence - 1).toNat) 65535) ∧
      (s.stick.owner ≠ some sender → t.link.counters.stickGap = s.link.counters.stickGap) ∧
      ∀ c, selectChannel s.own channels = some c →
        let d := max c.deflection.toInt (-32767)
        let abandoned := s.halt.station = .run ∧ s.record.takeThreshold < d.natAbs ∧
          (s.next.state = .seeking ∨ s.next.state = .ready)
        (s.stick.owner = none → c.flags.getLsbD 0 = false →
          t.stick = { owner := some sender, deflection := d, gain := c.gain.toNat, holdAge := 0, phase := .live,
                      ownerSequence := sequence, contest := s.stick.contest, lapsed := false } ∧
          (abandoned → t.next = { s.next with state := .loaded }) ∧ (¬ abandoned → t.next = s.next)) ∧
        (s.stick.owner = none → c.flags.getLsbD 0 = true → t.stick = s.stick ∧ t.next = s.next) ∧
        (s.stick.owner = some sender → c.flags.getLsbD 0 = false →
          t.stick = { owner := some sender, deflection := d, gain := c.gain.toNat, holdAge := 0, phase := .live,
                      ownerSequence := sequence, contest := s.stick.contest, lapsed := s.stick.lapsed } ∧
          (abandoned → t.next = { s.next with state := .loaded }) ∧ (¬ abandoned → t.next = s.next)) ∧
        (s.stick.owner = some sender → c.flags.getLsbD 0 = true →
          t.stick = { owner := none, deflection := 0, gain := s.stick.gain, holdAge := 255, phase := .zero,
                      ownerSequence := sequence, contest := s.stick.contest, lapsed := s.stick.lapsed } ∧
          t.next = s.next) ∧
        (∀ o, s.stick.owner = some o → o ≠ sender →
          t.stick = { s.stick with contest := 100 } ∧ t.next = s.next ∧
          t.link.counters.stickContest = min (s.link.counters.stickContest + 1) 65535)) ∧
    (s.stick.owner = none ∨ s.stick.owner = some sender ∨ selectChannel s.own channels = none →
      t.link.counters.stickContest = s.link.counters.stickContest) ∧
    t = (((s.heard.setStick t.stick).setNext t.next).mapCounters fun c =>
      { c with stickGap := t.link.counters.stickGap, stickContest := t.link.counters.stickContest })

/-! Cue frames. `s.heard.countMiss` is a miss: CUE_MISS increments and nothing else changes. -/

/-- A miss increments CUE_MISS, saturating, and changes nothing else. A cue frame whose mask does not name the station
is ignored; in CONFIG every cue frame at a station of its mask is a miss. -/
def Obligations.CueFrameMissesAndMasks : Prop :=
  (∀ s : State, s.countMiss = s.setLink
     { s.link with counters := { s.link.counters with cueMiss := min (s.link.counters.cueMiss + 1) 65535 } }) ∧
  (∀ (n : Station) (m : StationMask) (a b d : Byte) (c : Instr) (s : State), s.hears n →
     c ∈ [.load n m a b d, .seek n m a, .go n m a, .stop n m a, .hold n m a, .release n m a, .loopEnd n m a,
          .recStart n m a b, .recStop n m] →
     (m.getLsbD s.own.val = false → exec c s = .next s.heard) ∧
     (m.getLsbD s.own.val = true → s.halt.station = .config → exec c s = .next s.heard.countMiss))

/-- LOAD replaces NEXT outside CONFIG, with no compaction in flight and the preset READY; every other LOAD is a miss.
SEEK drives a loaded cue to its first position, is accepted without change while seeking or READY, and is a miss
otherwise. -/
def Obligations.LoadAndSeekFillNext : Prop :=
  (∀ (n : Station) (m : StationMask) (id preset cond : Byte) (s : State), s.cued n m →
     (∀ (p : Preset) (sc : StartCondition), preset = presetByte p → cond = startConditionCode sc → id ≠ 255 →
       s.halt.station ≠ .config → s.store.compacting = false → (s.store.entry p).state = .ready →
       exec (.load n m id preset cond) s =
         .next (s.heard.setNext { state := .loaded, preset := p, cueId := id, condition := sc })) ∧
     (32 ≤ preset.toNat ∨ 2 ≤ cond.toNat ∨ id = 255 ∨ s.halt.station = .config ∨ s.store.compacting = true ∨
         (∃ p : Preset, preset = presetByte p ∧ (s.store.entry p).state ≠ .ready) →
       exec (.load n m id preset cond) s = .next s.heard.countMiss)) ∧
  (∀ (n : Station) (m : StationMask) (id : Byte) (s : State), s.cued n m →
     (id ≠ 255 → s.halt.station = .run → s.running.state = .idle → s.next.cueId = id →
       (s.next.state = .loaded → exec (.seek n m id) s = .next (s.heard.setNext { s.next with state := .seeking })) ∧
       (s.next.state = .seeking ∨ s.next.state = .ready → exec (.seek n m id) s = .next s.heard)) ∧
     (id = 255 ∨ s.halt.station ≠ .run ∨ s.running.state ≠ .idle ∨ s.next.state = .empty ∨ s.next.cueId ≠ id →
       exec (.seek n m id) s = .next s.heard.countMiss))

/-- GO starts the cue of NEXT in RUN, cutting one that plays, and is a miss otherwise. -/
def Obligations.GoStartsTheCue : Prop :=
  ∀ (n : Station) (m : StationMask) (id : Byte) (s : State), s.cued n m →
    (id ≠ 255 → s.halt.station = .run → s.next.state ≠ .empty → s.next.cueId = id → ∃ t,
      exec (.go n m id) s = .next t ∧ s.cueStarted t m ∧
      t = ((s.heard.setRunning t.running).setNext t.next).setBlend t.blend) ∧
    (id = 255 ∨ s.halt.station ≠ .run ∨ s.next.state = .empty ∨ s.next.cueId ≠ id →
      exec (.go n m id) s = .next s.heard.countMiss)

/-- STOP, HOLD, RELEASE and LOOP_END act on a cue that plays or is held under the carried id, 255 naming any; otherwise
each is a miss. -/
def Obligations.RunningCueFrames : Prop :=
  ∀ (n : Station) (m : StationMask) (id : Byte) (s : State), s.cued n m →
    (s.halt.station = .run → s.running.state ≠ .idle → id = 255 ∨ s.running.cueId = id →
      exec (.stop n m id) s =
        .next ((s.heard.setRunning RunningSlot.idle).setBlend { s.blend with taking := false }) ∧
      exec (.hold n m id) s = .next (s.heard.setRunning { s.running with state := .held }) ∧
      exec (.release n m id) s = .next (s.heard.setRunning { s.running with state := .playing }) ∧
      exec (.loopEnd n m id) s = .next (s.heard.setRunning { s.running with cycle := false, passesLeft := 1 })) ∧
    (s.halt.station ≠ .run ∨ s.running.state = .idle ∨ id ≠ 255 ∧ s.running.cueId ≠ id →
      exec (.stop n m id) s = .next s.heard.countMiss ∧ exec (.hold n m id) s = .next s.heard.countMiss ∧
      exec (.release n m id) s = .next s.heard.countMiss ∧ exec (.loopEnd n m id) s = .next s.heard.countMiss)

/-- REC_START places keyframe 0 at HWM and opens the recording under the conditions of R11, and is a miss otherwise. -/
def Obligations.RecordingStarts : Prop :=
  ∀ (n : Station) (m : StationMask) (preset interval : Byte) (s : State), s.cued n m →
    (∀ p : Preset, preset = presetByte p → interval ≠ 0 → s.halt.station = .run → s.store.download = none →
      s.store.recording = none → s.store.compacting = false → s.referenced p = false → s.store.hwm + 2 ≤ 1024 →
      ∃ t st, exec (.recStart n m preset interval) s = .next t ∧
        st = (if (s.store.entry p).state = .ready then s.store.free p else s.store) ∧
        t.store.entry p = { state := .recording, first := st.hwm, count := 1, fields := ModeFields.initial,
                            truncated := false } ∧
        (∀ q : Preset, q ≠ p → t.store.entry q = s.store.entry q) ∧
        t.store.pool.read st.hwm =
          { time := 0, position := min (max ((s.blend.x + 32768) / 65536) s.record.lo) s.record.hi, shape := .linear } ∧
        (∀ i, i ≠ st.hwm → t.store.pool.read i = st.pool.read i) ∧ t.store.hwm = st.hwm + 1 ∧
        t.store.recording = some { preset := p, interval := interval.toNat, elapsed := 0, lastCapture := 0 } ∧
        t.store.download = none ∧ t.store.compacting = false ∧ t = s.heard.setStore t.store) ∧
    (32 ≤ preset.toNat ∨ interval = 0 ∨ s.halt.station ≠ .run ∨ s.store.download ≠ none ∨ s.store.recording ≠ none ∨
        s.store.compacting = true ∨ (∃ p : Preset, preset = presetByte p ∧ s.referenced p = true) ∨
        1024 < s.store.hwm + 2 →
      exec (.recStart n m preset interval) s = .next s.heard.countMiss)

/-- REC_STOP ends the recording: a final keyframe at the elapsed count where the last capture was earlier, then READY,
or freed as too short with a miss; with no recording it is a miss. A keyframe is captured at each expiry at which the
elapsed count is a multiple of the interval, with the setpoint stored at that same expiry, unless a limit of R14 ends the
recording there with the truncated flag. -/
def Obligations.RecordingCapturesAndStops : Prop :=
  (∀ (n : Station) (m : StationMask) (s : State), s.cued n m →
     (s.halt.station ≠ .run ∨ s.store.recording = none → exec (.recStop n m) s = .next s.heard.countMiss) ∧
     (∀ r : Recording, s.halt.station = .run → s.store.recording = some r → ∃ t, exec (.recStop n m) s = .next t ∧
       t.store.recording = none ∧ t.store.download = s.store.download ∧
       (∀ q : Preset, q ≠ r.preset → t.store.entry q = s.store.entry q) ∧
       (let e := s.store.entry r.preset
        let final := r.elapsed ≠ r.lastCapture ∧ s.store.hwm < 1024
        (final → 1 ≤ e.count →
          t.store.entry r.preset = { e with state := .ready, count := e.count + 1, truncated := false } ∧
          t.store.hwm = s.store.hwm + 1 ∧
          t.store.pool.read s.store.hwm =
            { time := r.elapsed, position := min (max ((s.blend.x + 32768) / 65536) s.record.lo) s.record.hi,
              shape := .linear } ∧
          (∀ i, i ≠ s.store.hwm → t.store.pool.read i = s.store.pool.read i) ∧ t = s.heard.setStore t.store) ∧
        (¬ final → 2 ≤ e.count →
          t.store = { s.store.setEntry r.preset { e with state := .ready, truncated := false } with recording := none } ∧
          t = s.heard.setStore t.store) ∧
        (¬ final → e.count < 2 →
          t.store = { s.store.free r.preset with recording := none } ∧ t = (s.heard.setStore t.store).countMiss)))) ∧
  (∀ (s : State) (r : Recording), s.store.recording = some r →
     let e := s.store.entry r.preset
     let t := s.recordExpiry
     let due := (r.elapsed + 1) % r.interval = 0
     (r.elapsed + 1 ≠ 16777216 → ¬ due →
       t = s.setStore { s.store with recording := some { r with elapsed := r.elapsed + 1 } }) ∧
     (r.elapsed + 1 ≠ 16777216 → due → s.store.hwm < 1024 →
       t.store.entry r.preset = { e with count := e.count + 1 } ∧ t.store.hwm = s.store.hwm + 1 ∧
       t.store.recording = some { r with elapsed := r.elapsed + 1, lastCapture := r.elapsed + 1 } ∧
       t.store.pool.read s.store.hwm =
         { time := r.elapsed + 1, position := min (max ((s.blend.x + 32768) / 65536) s.record.lo) s.record.hi,
           shape := .linear } ∧
       (∀ i, i ≠ s.store.hwm → t.store.pool.read i = s.store.pool.read i) ∧
       (∀ q : Preset, q ≠ r.preset → t.store.entry q = s.store.entry q) ∧ t = s.setStore t.store) ∧
     (r.elapsed + 1 = 16777216 ∨ due ∧ 1024 ≤ s.store.hwm → 2 ≤ e.count →
       t = s.setStore
         { s.store.setEntry r.preset { e with state := .ready, truncated := true } with recording := none })) ∧
  (∀ s : State, s.ModeSound → s.pins.rstn = true → s.halt.station = .run → s.store.recording.isSome = true →
     s.handsOverQuietly → ∃ t, exec .controlPeriodExpiry s = .next t ∧
       t.store = (s.setBlend t.blend).recordExpiry.store)

/-! The peer table and the trigger. -/

/-- A STATE report in range overwrites its sender's record and is handed on: the seen set, the halt check and, in
CONFIG, the epoch; and the trigger evaluates it where its sender is the watched station, before or after the halt check as
told (log 10), which differ where the report halts a station in RUN. One with a field out of range is discarded: which
values those are is said field by field, and what each field of the record holds is what was carried, but for the flag bits
that name no member, which are dropped (log 24). -/
def Obligations.StateReportIsWritten : Prop :=
  (∀ raw : RawReport,
     (reportOf raw = none ↔
       7 < raw.axisKind.toNat ∧ raw.axisKind ≠ 255 ∨ 3 < raw.state.toNat ∨ 2 < raw.cueState.toNat ∨
       3 < raw.nextState.toNat ∨ 15 < raw.stickOwner.toNat ∧ raw.stickOwner ≠ 255 ∨
       raw.controlPeriod ≠ 0 ∧ (raw.controlPeriod.toNat < 500 ∨ 4000 < raw.controlPeriod.toNat) ∨
       65536 < raw.ability.toNat) ∧
     ∀ r, reportOf raw = some r →
       axisKindCode r.axisKind = raw.axisKind ∧ stationStateCode r.state = raw.state ∧ r.epoch = raw.epoch ∧
       r.causes = raw.causes ∧ r.measured = raw.measured.toInt ∧ r.velocity = raw.velocity.toInt ∧
       (∀ i < 11, r.flags.getLsbD i = raw.flags.getLsbD i) ∧ (∀ i, 11 ≤ i → r.flags.getLsbD i = false) ∧
       r.controlPeriod = raw.controlPeriod.toNat ∧ r.cueId = raw.cueId ∧ cueStateCode r.cueState = raw.cueState ∧
       r.cueTime = raw.cueTime.toNat ∧ r.ability = raw.ability.toNat ∧ stationField r.stickOwner = raw.stickOwner ∧
       r.nextId = raw.nextId ∧ nextStateCode r.nextState = raw.nextState) ∧
  ∀ (n : Station) (raw : RawReport) (first : Bool) (s : State), s.hears n →
    (reportOf raw = none → exec (.state n raw first) s = .next s.heard) ∧
    (∀ r, reportOf raw = some r → ∃ t, exec (.state n raw first) s = .next t ∧
      t.peers.records[n] =
        { present := true, report := r, age := 0,
          mismatch := s.start.record.isSome && r.controlPeriod ≠ 0 && r.controlPeriod ≠ s.record.controlPeriod } ∧
      (∀ m : Station, m ≠ n → t.peers.records[m] = s.peers.records[m]) ∧ t.peers.coupling = s.peers.coupling ∧
      (let halting := (r.state = .halting ∨ r.state = .halted) ∧ r.epoch = s.halt.epoch
       (s.halt.station = .config → t.halt = if r.state = .config then s.halt else { s.halt with epoch := r.epoch }) ∧
       (s.halt.station = .run → halting →
         t.halt = { station := .halting, causes := s.halt.causes ||| causePeer, epoch := s.halt.epoch,
                    record := some { origin := n, entryCauses := causePeer, originCauses := r.causes,
                                     entryEpoch := s.halt.epoch } } ∧
         t.running = RunningSlot.idle ∧ t.link.haltSlot = s.link.haltSlot) ∧
       (s.halt.station = .halting ∨ s.halt.station = .halted → halting →
         t.halt = { s.halt with causes := s.halt.causes ||| causePeer }) ∧
       (s.halt.station ≠ .config → ¬ halting → t.halt = s.halt) ∧
       (¬ (s.halt.station = .run ∧ halting) → t.next = s.next ∧
         t.running =
           (if s.running.state ≠ .idle ∧ maskHas s.running.participants n = true ∧ r.cueId = s.running.cueId ∧
               r.cueState ≠ .idle then
             { s.running with seen := maskAdd s.running.seen n }
            else s.running)) ∧
       ∃ u, (s.trigger.watched = n → ¬ (first = true ∧ s.halt.station = .run ∧ halting) →
           u = s.heard.evaluateTrigger r.state r.measured) ∧
         (s.trigger.watched ≠ n ∨ first = true ∧ s.halt.station = .run ∧ halting → u = s.heard) ∧
         t.link.cueList = u.link.cueList ∧ t.link.counters.outDrop = u.link.counters.outDrop ∧
         (s.halt.station = .run ∧ halting → t.trigger = { u.trigger with state := .disarmed }) ∧
         (¬ (s.halt.station = .run ∧ halting) → t.trigger = u.trigger)) ∧
      t.stick = s.stick ∧ t.mark = s.mark ∧ t.port = s.port ∧ t.start = s.start)

/-- One evaluation of the trigger: it arms clear of the threshold, fires one GO at the crossing and is then DISARMED;
outside RUN, DISARMED, or for a report of CONFIG there is none. The trigger's requests: TRIGGER_ARM takes the fields and
starts ARMING, TRIGGER_DISARM answers the state it found, and TRIGGER_READ changes nothing. -/
def Obligations.TriggerArmsAndFires : Prop :=
  (∀ (s : State) (reported : StationState) (p : Int), let k := s.trigger
     let t := s.evaluateTrigger reported p
     (s.halt.station ≠ .run ∨ reported = .config ∨ k.state = .disarmed → t = s) ∧
     (s.halt.station = .run → reported ≠ .config → k.state = .arming →
       t = if (k.sense = .rising ∧ p < k.threshold - k.hysteresis) ∨
             (k.sense = .falling ∧ p > k.threshold + k.hysteresis) then
           s.setTrigger { k with state := .armed } else s) ∧
     (s.halt.station = .run → reported ≠ .config → k.state = .armed →
       ((k.sense = .rising ∧ p ≥ k.threshold) ∨ (k.sense = .falling ∧ p ≤ k.threshold) →
         (s.link.cueList.length < 4 →
           t = (s.setLink { s.link with cueList := s.link.cueList ++ [.go k.mask k.cueId] }).setTrigger
             { k with state := .disarmed }) ∧
         (4 ≤ s.link.cueList.length →
           t = (s.mapCounters fun c => { c with outDrop := min (c.outDrop + 1) 65535 }).setTrigger
             { k with state := .disarmed })) ∧
       (¬ ((k.sense = .rising ∧ p ≥ k.threshold) ∨ (k.sense = .falling ∧ p ≤ k.threshold)) → t = s))) ∧
  (∀ (h : ReqHeader) (a : ArmArgs) (s : State), s.serves h →
     (16 ≤ a.watched.toNat ∨ 2 ≤ a.sense.toNat ∨ a.cueId = 255 ∨ a.mask = 0 →
       exec (.triggerArm h (.fields a)) s = .next (s.heard.withReply h 0x20 .badRequest [])) ∧
     (∀ (w : Station) (se : Sense), a.watched = stationByte w → a.sense = senseCode se → a.cueId ≠ 255 → a.mask ≠ 0 →
       (s.halt.station = .config →
         exec (.triggerArm h (.fields a)) s = .next (s.heard.withReply h 0x20 .wrongState [])) ∧
       (s.halt.station ≠ .config →
         exec (.triggerArm h (.fields a)) s = .next
           ((s.heard.setTrigger
             { state := .arming, watched := w, sense := se, threshold := a.threshold.toInt,
               hysteresis := a.hysteresis.toNat, cueId := a.cueId, mask := a.mask }).withReply h 0x20 .done []))) ∧
     exec (.triggerDisarm h (.fields ())) s = .next
       ((s.heard.setTrigger { s.trigger with state := .disarmed }).withReply h 0x21 .done
         [triggerStateCode s.trigger.state]) ∧
     exec (.triggerRead h (.fields ())) s = .next
       (s.heard.withReply h 0x22 .done (triggerStateCode s.trigger.state :: triggerBytes s.trigger)))

/-! The mark unit. -/

/-- A sample event: every line takes its sample, the accepted level follows two samples that agree, and in MATCH the
standing is decided anew; where nothing fires, nothing else changes. -/
def Obligations.MarkLinesAreSampled : Prop :=
  ∀ (levels : BitVec 4) (s : State), s.pins.rstn = true → ∃ t, exec (.markSample levels) s = .next t ∧
    (∀ n : Fin 4, t.mark.lines.at n =
      { previous := some (levels.getLsbD n.val)
        accepted := if (s.mark.lines.at n).previous = some (levels.getLsbD n.val) then some (levels.getLsbD n.val)
          else (s.mark.lines.at n).accepted }) ∧
    (s.record.markMode = .pattern → (t.mark.standing = .inMatch ↔
      ∀ n : Fin 4, s.record.markMask.getLsbD n.val = false →
        (t.mark.lines.at n).accepted = some (s.record.markPattern.getLsbD n.val))) ∧
    (s.markFires levels = false → t.mark.latched = s.mark.latched ∧ t = s.setMark t.mark)

/-- When a sample event fires: in EVENT at an accepted change of an unmasked line, in MATCH at the passing from out of
match to in match, in OFF never. A firing latches the accepted levels and takes the mark action by the station state. -/
def Obligations.MarkFiringLatchesAndActs : Prop :=
  (∀ (levels : BitVec 4) (s : State),
     (s.record.markMode = .off → s.markFires levels = false) ∧
     (s.record.markMode = .event → (s.markFires levels = true ↔
       ∃ n : Fin 4, s.record.markMask.getLsbD n.val = false ∧
         (s.mark.lines.at n).accepted = some (!levels.getLsbD n.val) ∧
         (s.mark.lines.at n).previous = some (levels.getLsbD n.val))) ∧
     (s.record.markMode = .pattern → (s.markFires levels = true ↔
       s.mark.standing = .out ∧ ∀ n : Fin 4, s.record.markMask.getLsbD n.val = false →
         (if (s.mark.lines.at n).previous = some (levels.getLsbD n.val) then some (levels.getLsbD n.val)
          else (s.mark.lines.at n).accepted) = some (s.record.markPattern.getLsbD n.val)))) ∧
  (∀ (levels : BitVec 4) (s : State), s.pins.rstn = true → s.markFires levels = true → ∃ t u,
     exec (.markSample levels) s = .next t ∧ u = s.setMark u.mark ∧ t.mark = u.mark ∧
     (∃ l, t.mark.latched = some l ∧ ∀ n : Fin 4, l.at n = (t.mark.lines.at n).accepted) ∧
     (s.halt.station = .run →
       (s.record.markAction = .go → s.next.state = .empty → t = u.countMiss) ∧
       (s.record.markAction = .go → s.next.state ≠ .empty → t = u.placeCue (.go s.record.goMask s.next.cueId)) ∧
       (s.record.markAction = .stop → t = u.placeCue (.stop s.record.goMask 255)) ∧
       (s.record.markAction = .halt → t = u.localFault causeMark)) ∧
     (s.halt.station = .halting ∨ s.halt.station = .halted →
       (s.record.markAction = .halt → t = u.setHalt { s.halt with causes := s.halt.causes ||| causeMark }) ∧
       (s.record.markAction ≠ .halt → t = u)) ∧
     (s.halt.station = .config → t = u))

/-! The drive port. -/

/-- A handed record takes the next sequence; it starts at once, waits, or replaces a waiting one, which is a missed
exchange, and the third in a row is DRIVE_LOST: a local fault in RUN, latched in HALTING and HALTED, and without effect in
CONFIG. So at each expiry of the control period timer and at each configuration exchange interval. DRDY rising starts the
exchange of a waiting record where none is under way, and while RSTN is held low it changes the pin only (log 5); falling, it
changes the pin only. -/
def Obligations.HandoverAndDriveReady : Prop :=
  (∀ (position velocity : Int) (enable halting : Bool) (s : State),
     let r : Setpoint := { sequence := s.port.nextSequence, position := position, velocity := velocity, enable := enable,
                           halting := halting }
     let t := s.handOver position velocity enable halting
     t.port.nextSequence = s.port.nextSequence + 1 ∧
     (s.port.inFlight = none → s.pins.drdy = true → t.port.inFlight = some r ∧ t.port.pendingRecord = none) ∧
     (s.port.inFlight.isSome = true ∨ s.pins.drdy = false →
       t.port.pendingRecord = some r ∧ t.port.inFlight = s.port.inFlight) ∧
     (s.port.pendingRecord = none → t.port.missRun = s.port.missRun ∧ t.port.lastExchange = s.port.lastExchange ∧
       t = s.setPort t.port) ∧
     (s.port.pendingRecord.isSome = true →
       t.port.missRun = min (s.port.missRun + 1) 255 ∧ t.port.lastExchange = .missed ∧
       t.link.counters.driveMiss = min (s.link.counters.driveMiss + 1) 65535 ∧
       (min (s.port.missRun + 1) 255 ≠ 3 → t.halt = s.halt) ∧
       (min (s.port.missRun + 1) 255 = 3 → s.halt.station = .run →
         t.halt.station = .halting ∧ t.halt.causes = s.halt.causes ||| causeDriveLost ∧
         t.link.haltSlot = some { origin := s.own, causes := causeDriveLost, epoch := s.halt.epoch }) ∧
       (min (s.port.missRun + 1) 255 = 3 → s.halt.station = .halting ∨ s.halt.station = .halted →
         t.halt = { s.halt with causes := s.halt.causes ||| causeDriveLost } ∧ t.link.haltSlot = s.link.haltSlot) ∧
       (min (s.port.missRun + 1) 255 = 3 → s.halt.station = .config →
         t.halt = s.halt ∧ t.link.haltSlot = s.link.haltSlot))) ∧
  (∀ s : State, s.pins.rstn = true → ∃ t r,
     exec (if s.halt.station = .config then .configExchangeInterval else .controlPeriodExpiry) s = .next t ∧
     (s.halt.station ≠ .config →
       r = { sequence := s.port.nextSequence, position := min ((t.blend.x + 32768) / 65536) 2147483647,
             velocity := t.blend.v, enable := true,
             halting := s.halt.station = .halting ∨ s.halt.station = .halted }) ∧
     (s.halt.station = .config →
       r = { sequence := s.port.nextSequence, position := if s.port.feedbackSeen then s.port.measured else 0,
             velocity := 0, enable := false, halting := false }) ∧
     t.port.nextSequence = s.port.nextSequence + 1 ∧
     (s.port.inFlight = none → s.pins.drdy = true → t.port.inFlight = some r ∧ t.port.pendingRecord = none) ∧
     (s.port.inFlight.isSome = true ∨ s.pins.drdy = false →
       t.port.pendingRecord = some r ∧ t.port.inFlight = s.port.inFlight) ∧
     (s.port.pendingRecord = none → t.port.missRun = s.port.missRun ∧ t.port.lastExchange = s.port.lastExchange ∧
       t.link.counters.driveMiss = s.link.counters.driveMiss) ∧
     (s.port.pendingRecord.isSome = true → t.port.missRun = min (s.port.missRun + 1) 255 ∧
       t.port.lastExchange = .missed ∧ t.link.counters.driveMiss = min (s.link.counters.driveMiss + 1) 65535) ∧
     (s.port.pendingRecord = none ∨ s.port.missRun ≠ 2 ∨ s.halt.station = .config →
       t.halt.causes = s.halt.causes ∧ t.halt.record = s.halt.record ∧ t.link.haltSlot = s.link.haltSlot) ∧
     (s.port.pendingRecord.isSome = true → s.port.missRun = 2 → s.halt.station = .run →
       t.halt = { station := .halting, causes := s.halt.causes ||| causeDriveLost, epoch := s.halt.epoch,
                  record := some { origin := s.own, entryCauses := causeDriveLost, originCauses := causeDriveLost,
                                   entryEpoch := s.halt.epoch } } ∧
       t.link.haltSlot = some { origin := s.own, causes := causeDriveLost, epoch := s.halt.epoch } ∧
       t.running = RunningSlot.idle) ∧
     (s.port.pendingRecord.isSome = true → s.port.missRun = 2 → s.halt.station = .halting ∨ s.halt.station = .halted →
       t.halt.causes = s.halt.causes ||| causeDriveLost ∧ t.halt.record = s.halt.record ∧
       t.link.haltSlot = s.link.haltSlot)) ∧
  (∀ s : State,
     (∀ r, s.pins.rstn = true → s.port.pendingRecord = some r → s.port.inFlight = none →
       exec .drdyRise s = .next ((s.setPins { s.pins with drdy := true }).setPort
         { s.port with pendingRecord := none, inFlight := some r })) ∧
     (s.pins.rstn = false ∨ s.port.pendingRecord = none ∨ s.port.inFlight.isSome = true →
       exec .drdyRise s = .next (s.setPins { s.pins with drdy := true })) ∧
     exec .drdyFall s = .next (s.setPins { s.pins with drdy := false }))

/-- A feedback that is absent or answers another record is a missed exchange: nothing of it is stored, and the third
miss in a row raises DRIVE_LOST. -/
def Obligations.BadFeedbackIsAMiss : Prop :=
  ∀ (fb : RawFeedback) (sent : Setpoint) (s : State), s.pins.rstn = true → s.port.inFlight = some sent →
    (fb.status ≠ 0x5A ∧ fb.status ≠ 0xA5) ∨ fb.echo ≠ sent.sequence → ∃ t, exec (.exchangeComplete fb) s = .next t ∧
      (let p : Port := { s.port with inFlight := none, lastExchange := .missed, missRun := min (s.port.missRun + 1) 255 }
       (∀ r, s.port.pendingRecord = some r → s.pins.drdy = true →
         t.port = { p with pendingRecord := none, inFlight := some r }) ∧
       (s.port.pendingRecord = none ∨ s.pins.drdy = false → t.port = p)) ∧
      t.link.counters.driveMiss = min (s.link.counters.driveMiss + 1) 65535 ∧
      (s.port.missRun ≠ 2 → t.halt = s.halt ∧ t = (s.setPort t.port).countDriveMiss) ∧
      (s.port.missRun = 2 → s.halt.station = .run →
        t.halt = { station := .halting, causes := s.halt.causes ||| causeDriveLost, epoch := s.halt.epoch,
                   record := some { origin := s.own, entryCauses := causeDriveLost, originCauses := causeDriveLost,
                                    entryEpoch := s.halt.epoch } } ∧
        t.link.haltSlot = some { origin := s.own, causes := causeDriveLost, epoch := s.halt.epoch }) ∧
      (s.port.missRun = 2 → s.halt.station = .halting ∨ s.halt.station = .halted →
        t.halt = { s.halt with causes := s.halt.causes ||| causeDriveLost }) ∧
      (s.port.missRun = 2 → s.halt.station = .config → t.halt = s.halt)

/-- A valid feedback outside CONFIG is stored, its causes are raised at this one event, the STATE report it prompts
carries what it has left, and a trigger that watches the own station evaluates that report. -/
def Obligations.ValidFeedbackIsStored : Prop :=
  ∀ (fb : RawFeedback) (sent : Setpoint) (s : State), s.pins.rstn = true → s.port.inFlight = some sent →
    fb.status = 0x5A ∨ fb.status = 0xA5 → fb.echo = sent.sequence → s.halt.station ≠ .config →
    1 ≤ s.record.feCount → ∃ t r, exec (.exchangeComplete fb) s = .next t ∧
      t.port.feedbackSeen = true ∧ t.port.measured = fb.measured.toInt ∧
      t.port.status = (if fb.status = 0xA5 then .fault else .ok) ∧ t.port.posLimit = fb.limits.getLsbD 0 ∧
      t.port.negLimit = fb.limits.getLsbD 1 ∧ t.port.lastExchange = .valid ∧ t.port.missRun = 0 ∧
      t.port.error = (sent.position - fb.measured.toInt).natAbs ∧
      t.port.followingRun = (if s.record.feLimit < (sent.position - fb.measured.toInt).natAbs
        then min (s.port.followingRun + 1) 255 else 0) ∧
      t.port.nextSequence = s.port.nextSequence ∧
      (∀ q, s.port.pendingRecord = some q → s.pins.drdy = true → t.port.inFlight = some q ∧ t.port.pendingRecord = none) ∧
      (s.port.pendingRecord = none ∨ s.pins.drdy = false →
        t.port.inFlight = none ∧ t.port.pendingRecord = s.port.pendingRecord) ∧
      (s.feedbackRaises sent fb = 0 → t.halt = s.halt ∧ t.running = s.running ∧ t.next = s.next ∧
        t.link.haltSlot = s.link.haltSlot) ∧
      (s.feedbackRaises sent fb ≠ 0 → s.halt.station = .run →
        t.halt = { station := .halting, causes := s.halt.causes ||| s.feedbackRaises sent fb, epoch := s.halt.epoch,
                   record := some { origin := s.own, entryCauses := s.feedbackRaises sent fb,
                                    originCauses := s.feedbackRaises sent fb, entryEpoch := s.halt.epoch } } ∧
        t.link.haltSlot = some { origin := s.own, causes := s.feedbackRaises sent fb, epoch := s.halt.epoch } ∧
        t.running = RunningSlot.idle) ∧
      (s.halt.station ≠ .run →
        t.halt = { s.halt with causes := s.halt.causes ||| s.feedbackRaises sent fb }) ∧
      t.link.stateSlot = some r ∧ r.state = t.halt.station ∧ r.causes = t.halt.causes ∧ r.epoch = t.halt.epoch ∧
      r.measured = fb.measured.toInt ∧ r.velocity = s.blend.v ∧ r.cueId = t.running.cueId ∧ r.nextId = t.next.cueId ∧
      (∃ u, (s.trigger.watched = s.own → u = s.evaluateTrigger s.halt.station fb.measured.toInt) ∧
        (s.trigger.watched ≠ s.own → u = s) ∧
        (s.feedbackRaises sent fb = 0 ∨ s.halt.station ≠ .run →
          t.trigger = u.trigger ∧ t.link.cueList = u.link.cueList ∧ t.link.counters.outDrop = u.link.counters.outDrop) ∧
        (s.feedbackRaises sent fb ≠ 0 → s.halt.station = .run →
          t.trigger = { s.trigger with state := .disarmed } ∧ t.link.cueList = s.link.cueList ∧
          t.link.counters.outDrop = s.link.counters.outDrop)) ∧
      t.blend.x = s.blend.x ∧ t.stick = s.stick ∧ t.peers = s.peers ∧ t.mark = s.mark ∧ t.start = s.start

/-- In CONFIG a valid feedback is stored, its drive status and limit flags with it, without a following check and without
a cause; the first one under a frozen record takes the station to RUN at the measured position, or to HALTED where
NUMBER_CLASH is latched. A trigger that watches the own station evaluates the report it prompts. -/
def Obligations.FirstFeedbackLeavesConfig : Prop :=
  ∀ (fb : RawFeedback) (sent : Setpoint) (s : State), s.pins.rstn = true → s.port.inFlight = some sent →
    fb.status = 0x5A ∨ fb.status = 0xA5 → fb.echo = sent.sequence → s.halt.station = .config → ∃ t r,
      exec (.exchangeComplete fb) s = .next t ∧
      t.port.feedbackSeen = true ∧ t.port.measured = fb.measured.toInt ∧
      t.port.status = (if fb.status = 0xA5 then .fault else .ok) ∧ t.port.posLimit = fb.limits.getLsbD 0 ∧
      t.port.negLimit = fb.limits.getLsbD 1 ∧ t.port.error = 0 ∧ t.port.followingRun = 0 ∧
      (∃ u, (s.trigger.watched = s.own →
          u = (s.setHalt t.halt).evaluateTrigger t.halt.station fb.measured.toInt) ∧
        (s.trigger.watched ≠ s.own → u = s) ∧
        t.trigger = u.trigger ∧ t.link.cueList = u.link.cueList ∧
        t.link.counters.outDrop = u.link.counters.outDrop) ∧
      t.port.missRun = 0 ∧ t.port.lastExchange = .valid ∧
      t.link.stateSlot = some r ∧ r.state = t.halt.station ∧ r.causes = t.halt.causes ∧ r.epoch = t.halt.epoch ∧
      r.measured = fb.measured.toInt ∧ r.velocity = 0 ∧
      (s.start.record = none → t.halt = s.halt ∧ t.blend = s.blend) ∧
      (s.start.record.isSome = true →
        t.blend = { x := fb.measured.toInt * 65536, v := 0, atLimit := false, taking := s.blend.taking } ∧
        (s.halt.causes &&& causeNumberClash ≠ causeNumberClash → t.halt = { s.halt with station := .run }) ∧
        (s.halt.causes &&& causeNumberClash = causeNumberClash →
          t.halt = { s.halt with
            station := .halted
            record := some { origin := s.own, entryCauses := causeNumberClash, originCauses := causeNumberClash,
                             entryEpoch := s.halt.epoch } })) ∧
      t.link.haltSlot = s.link.haltSlot ∧ t.running = s.running ∧ t.next = s.next ∧ t.store = s.store ∧
      t.stick = s.stick ∧ t.peers = s.peers ∧ t.mark = s.mark ∧ t.start = s.start

/-! The line. -/

/-- A contention window told whole: the first non-empty part of the outbound list offers its key, loses to a lower key,
and otherwise its frame goes into flight and leaves its part. Told in two, the opening fixes the offer, and at the own
slot the part is sent as it then stands; an emptied part begins no frame, and with no offer left the slot changes nothing
(log 4). -/
def Obligations.ContentionWindowIsWonByTheLowestKey : Prop :=
  (∀ (others : Option Byte) (s : State), s.pins.rstn = true → s.link.inFlight = none → ∃ t,
     exec (.contentionWindow (.whole others)) s = .next t ∧ t.link.offer = none ∧
     (let l := { s.link with offer := none }
      let wins := fun k : Nat => ∀ o, others = some o → k ≤ o.toNat
      let n := s.own.val
      (∀ f, s.link.haltSlot = some f →
        t = s.setLink (if wins n then { l with haltSlot := none, inFlight := some { key := keyOf 0 s.own, frame := .halt f } }
          else l)) ∧
      (s.link.haltSlot = none → ∀ f rest, s.link.cueList = f :: rest →
        t = s.setLink (if wins (16 + n) then
          { l with cueList := rest, inFlight := some { key := keyOf 1 s.own, frame := .cue f } } else l)) ∧
      (s.link.haltSlot = none → s.link.cueList = [] → ∀ r, s.link.stateSlot = some r →
        t = s.setLink (if wins (32 + n) then
          { l with stateSlot := none, inFlight := some { key := keyOf 2 s.own, frame := .state r } } else l)) ∧
      (s.link.haltSlot = none → s.link.cueList = [] → s.link.stateSlot = none → ∀ r, s.link.replySlot = some r →
        t = s.setLink (if wins (48 + n) then
          { l with replySlot := none, inFlight := some { key := keyOf 3 s.own, frame := .reply r } } else l)) ∧
      (s.link.haltSlot = none → s.link.cueList = [] → s.link.stateSlot = none → s.link.replySlot = none →
        t = s.setLink l))) ∧
  (∀ s : State, s.pins.rstn = true → s.link.inFlight = none →
     exec (.contentionWindow .opening) s = .next (s.setLink { s.link with
       offer :=
         if s.link.haltSlot.isSome then some { part := .halt, key := keyOf 0 s.own }
         else if s.link.cueList ≠ [] then some { part := .cue, key := keyOf 1 s.own }
         else if s.link.stateSlot.isSome then some { part := .state, key := keyOf 2 s.own }
         else if s.link.replySlot.isSome then some { part := .reply, key := keyOf 3 s.own }
         else none }) ∧
     (s.link.offer = none → ∀ others, exec (.contentionWindow (.slot others)) s = .next s) ∧
     ∀ o, s.link.offer = some o → ∀ others,
       let gone := { s.link with offer := none }
       ((∃ k, others = some k ∧ k < o.key) → exec (.contentionWindow (.slot others)) s = .next (s.setLink gone)) ∧
       ((∀ k, others = some k → o.key ≤ k) →
         (o.part = .state → s.link.stateSlot = none →
           exec (.contentionWindow (.slot others)) s = .next (s.setLink gone)) ∧
         (∀ r, o.part = .state → s.link.stateSlot = some r →
           exec (.contentionWindow (.slot others)) s = .next (s.setLink
             { gone with stateSlot := none, inFlight := some { key := o.key, frame := .state r } })) ∧
         (o.part = .halt → s.link.haltSlot = none →
           exec (.contentionWindow (.slot others)) s = .next (s.setLink gone)) ∧
         (∀ f, o.part = .halt → s.link.haltSlot = some f →
           exec (.contentionWindow (.slot others)) s = .next (s.setLink
             { gone with haltSlot := none, inFlight := some { key := o.key, frame := .halt f } })) ∧
         (o.part = .cue → s.link.cueList = [] →
           exec (.contentionWindow (.slot others)) s = .next (s.setLink gone)) ∧
         (∀ f rest, o.part = .cue → s.link.cueList = f :: rest →
           exec (.contentionWindow (.slot others)) s = .next (s.setLink
             { gone with cueList := rest, inFlight := some { key := o.key, frame := .cue f } })) ∧
         (∀ r, o.part = .reply → s.link.replySlot = some r →
           exec (.contentionWindow (.slot others)) s = .next (s.setLink
             { gone with replySlot := none, inFlight := some { key := o.key, frame := .reply r } }))))

/-- At the completion of a sent GO or STOP the frame acts here as a received one would; HALT, STATE and replies have no
effect; the frame in flight becomes none. Its mask is tested against the station number then in force (log 25). -/
def Obligations.TransmissionCompletes : Prop :=
  ∀ (f : InFlight) (s : State), s.link.inFlight = some f → ∃ t, exec .transmissionComplete s = .next t ∧
    t.link.inFlight = none ∧
    (let done := s.setLink { s.link with inFlight := none }
     (∀ h, f.frame = .halt h → t = done) ∧ (∀ r, f.frame = .state r → t = done) ∧
     (∀ r, f.frame = .reply r → t = done) ∧
     (∀ m id, f.frame = .cue (.go m id) →
       (m.getLsbD s.own.val = false → t = done) ∧
       (m.getLsbD s.own.val = true →
         (id ≠ 255 → s.halt.station = .run → s.next.state ≠ .empty → s.next.cueId = id →
           s.cueStarted t m ∧ t = ((done.setRunning t.running).setNext t.next).setBlend t.blend) ∧
         (id = 255 ∨ s.halt.station ≠ .run ∨ s.next.state = .empty ∨ s.next.cueId ≠ id → t = done.countMiss))) ∧
     (∀ m id, f.frame = .cue (.stop m id) →
       (m.getLsbD s.own.val = false → t = done) ∧
       (m.getLsbD s.own.val = true →
         (s.halt.station = .run → s.running.state ≠ .idle → id = 255 ∨ s.running.cueId = id →
           t = (done.setRunning RunningSlot.idle).setBlend { s.blend with taking := false }) ∧
         (s.halt.station ≠ .run ∨ s.running.state = .idle ∨ id ≠ 255 ∧ s.running.cueId ≠ id →
           t = done.countMiss))))

/-! The path of a request. -/

/-- A request, of whatever kind and arguments, is ignored for another target, and dropped and counted at an occupied reply
slot; an unknown kind is answered BAD_REQUEST, echoing the kind byte, and so is a length the kind does not require. -/
def Obligations.RequestPath : Prop :=
  (∀ (c : Instr) (h : ReqHeader) (s : State), c.header = some h → s.hears h.sender →
     (h.target ≠ stationByte s.own → exec c s = .next s.heard) ∧
     (h.target = stationByte s.own → s.link.replySlot.isSome = true →
       exec c s = .next (s.heard.mapCounters fun k => { k with reqDrop := min (k.reqDrop + 1) 65535 }))) ∧
  (∀ (h : ReqHeader) (kind : Byte) (straps : Station) (s : State), s.serves h →
      exec (.unknownRequestKind h kind) s = .next (s.heard.withReply h kind .badRequest []) ∧
      exec (.ident h .wrongLength) s = .next (s.heard.withReply h 0x01 .badRequest []) ∧
      exec (.startRecordWriteSection1 h .wrongLength) s = .next (s.heard.withReply h 0x02 .badRequest []) ∧
      exec (.startRecordWriteSection2 h .wrongLength) s = .next (s.heard.withReply h 0x02 .badRequest []) ∧
      exec (.restart h .wrongLength straps) s = .next (s.heard.withReply h 0x03 .badRequest []) ∧
      exec (.statusRead h .wrongLength) s = .next (s.heard.withReply h 0x04 .badRequest []) ∧
      exec (.countersRead h .wrongLength) s = .next (s.heard.withReply h 0x05 .badRequest []) ∧
      exec (.presetOpen h .wrongLength) s = .next (s.heard.withReply h 0x10 .badRequest []) ∧
      exec (.keyframeWrite h .wrongLength) s = .next (s.heard.withReply h 0x11 .badRequest []) ∧
      exec (.presetClose h .wrongLength) s = .next (s.heard.withReply h 0x12 .badRequest []) ∧
      exec (.presetErase h .wrongLength) s = .next (s.heard.withReply h 0x13 .badRequest []) ∧
      exec (.presetEdit h .wrongLength) s = .next (s.heard.withReply h 0x14 .badRequest []) ∧
      exec (.directoryRead h .wrongLength) s = .next (s.heard.withReply h 0x15 .badRequest []) ∧
      exec (.keyframeRead h .wrongLength) s = .next (s.heard.withReply h 0x16 .badRequest []) ∧
      exec (.poolCompact h .wrongLength) s = .next (s.heard.withReply h 0x17 .badRequest []) ∧
      exec (.triggerArm h .wrongLength) s = .next (s.heard.withReply h 0x20 .badRequest []) ∧
      exec (.triggerDisarm h .wrongLength) s = .next (s.heard.withReply h 0x21 .badRequest []) ∧
      exec (.triggerRead h .wrongLength) s = .next (s.heard.withReply h 0x22 .badRequest []))

/-- The requests that only read: IDENT, STATUS_READ, COUNTERS_READ, DIRECTORY_READ and KEYFRAME_READ place their reply
and change nothing else, but for the counters that COUNTERS_READ clears. KEYFRAME_READ answers the aligned group of four
from the index on, wrapping, with an absent mark past what is written. The conditions are taken in the order of the
request's table, also during a compaction (log 17). -/
def Obligations.ReadingRequestsAnswer : Prop :=
  (∀ (h : ReqHeader) (s : State), s.serves h →
     exec (.ident h (.fields ())) s = .next (s.heard.withReply h 0x01 .done
       [0x02, 0xE4, Config.partRevision, stationByte s.own,
        axisKindCode (s.start.record.map fun r => r.axisKind), stationStateCode s.halt.station,
        if s.start.record.isSome then 2 else if s.start.staged.isSome then 1 else 0]) ∧
     exec (.statusRead h (.fields none)) s = .next (s.heard.withReply h 0x04 .done s.heard.ownStatus) ∧
     exec (.statusRead h (.fields (some (stationByte s.own)))) s =
       .next (s.heard.withReply h 0x04 .done s.heard.ownStatus) ∧
     (∀ b : Byte, 16 ≤ b.toNat → exec (.statusRead h (.fields (some b))) s =
       .next (s.heard.withReply h 0x04 .badRequest [])) ∧
     (∀ n : Station, n ≠ s.own → exec (.statusReadPeer h n) s =
       .next (s.heard.withReply h 0x04 .done (s.peerStatus n))) ∧
     exec (.countersRead h (.fields 0)) s =
       .next (s.heard.withReply h 0x05 .done (counterBytes s.heard.link.counters)) ∧
     exec (.countersRead h (.fields 1)) s =
       .next ((s.heard.mapCounters fun _ => Counters.zero).withReply h 0x05 .done
         (counterBytes s.heard.link.counters)) ∧
     (∀ b : Byte, 2 ≤ b.toNat → exec (.countersRead h (.fields b)) s =
       .next (s.heard.withReply h 0x05 .badRequest [])) ∧
     (∀ p : Preset, s.store.compacting = false → exec (.directoryRead h (.fields (presetByte p))) s =
       .next (s.heard.withReply h 0x15 .done (s.store.directoryBytes p))) ∧
     (∀ (p : Preset) (i : Half), i.toNat < (s.store.entry p).count → i.toNat ≤ 1023 → s.store.compacting = false →
       (s.store.entry p).state ≠ .empty →
       exec (.keyframeRead h (.fields { preset := presetByte p, index := i })) s =
         .next (s.heard.withReply h 0x16 .done
           ((readGroup i.toNat).flatMap (s.store.readItem p)))) ∧
     (∀ (p : Preset) (i : Half), i.toNat ≤ 1023 → s.store.compacting = false →
       ((s.store.entry p).state = .empty → exec (.keyframeRead h (.fields { preset := presetByte p, index := i })) s =
         .next (s.heard.withReply h 0x16 .wrongState [])) ∧
       ((s.store.entry p).state ≠ .empty → (s.store.entry p).count ≤ i.toNat →
         exec (.keyframeRead h (.fields { preset := presetByte p, index := i })) s =
           .next (s.heard.withReply h 0x16 .range []))) ∧
     (∀ (p : Preset) (i : Half), i.toNat ≤ 1023 → s.store.compacting = true →
       exec (.directoryRead h (.fields (presetByte p))) s = .next (s.heard.withReply h 0x15 .busy []) ∧
       exec (.keyframeRead h (.fields { preset := presetByte p, index := i })) s =
         .next (s.heard.withReply h 0x16 .busy [])) ∧
     (∀ (b : Byte) (i : Half), 32 ≤ b.toNat → exec (.directoryRead h (.fields b)) s =
       .next (s.heard.withReply h 0x15 .badRequest []) ∧
       exec (.keyframeRead h (.fields { preset := b, index := i })) s =
         .next (s.heard.withReply h 0x16 .badRequest [])) ∧
     (∀ (b : Byte) (i : Half), 1023 < i.toNat → exec (.keyframeRead h (.fields { preset := b, index := i })) s =
       .next (s.heard.withReply h 0x16 .badRequest []))) ∧
  (∀ (st : Store) (p : Preset) (i : Nat),
     readGroup i = [4 * (i / 4) + i % 4, 4 * (i / 4) + (i + 1) % 4, 4 * (i / 4) + (i + 2) % 4, 4 * (i / 4) + (i + 3) % 4] ∧
     (let written := i < (st.entry p).count ∧
        ¬ ((st.entry p).state = .loading ∧ ∃ d, st.download = some d ∧ d.nextIndex ≤ i)
      (written → st.readItem p i =
        nat16 i ++ 1 :: keyframeBytes (st.pool.read ((st.entry p).first + i))) ∧
      (¬ written → st.readItem p i = nat16 i ++ [0, 0, 0, 0, 0, 0, 0, 0, 0])))

/-! The start record. -/

/-- Section 1 is FROZEN outside CONFIG and under a frozen record, REJECTED with the lowest field out of range, and
otherwise staged. Field by field, the range checked under each number, of section 1 and of section 2 at a station, is that
of the field table, and what each field of the record holds is what was carried. -/
def Obligations.StartRecordSection1IsChecked : Prop :=
  (∀ (h : ReqHeader) (r : RawSection1) (s : State), s.serves h →
     (∀ n, exec (.startRecordWriteSection1 h (.badSection n)) s = .next (s.heard.withReply h 0x02 .badRequest [])) ∧
     (s.halt.station ≠ .config ∨ s.start.record.isSome = true →
       exec (.startRecordWriteSection1 h (.fields r)) s = .next (s.heard.withReply h 0x02 .frozen [])) ∧
     (s.halt.station = .config → s.start.record = none →
       let ok : Nat → Prop := fun n => ∀ c ∈ section1Checks r, c.1 = n → c.2 = true
       (∀ n, 1 ≤ n → n ≤ 14 → ¬ ok n → (∀ m < n, ok m) →
         exec (.startRecordWriteSection1 h (.fields r)) s =
           .next (s.heard.withReply h 0x02 .rejected [BitVec.ofNat 8 n])) ∧
       ((∀ n, ok n) →
         exec (.startRecordWriteSection1 h (.fields r)) s =
           .next ((s.heard.setStart { s.start with staged := some (section1Of r) }).withReply h 0x02 .done [])))) ∧
  (∀ r : RawSection1,
     let ok : Nat → Prop := fun n => ∀ c ∈ section1Checks r, c.1 = n → c.2 = true
     let q := section1Of r
     (ok 1 ↔ r.axisKind.toNat ≤ 7) ∧ (ok 2 ↔ 500 ≤ r.controlPeriod.toNat ∧ r.controlPeriod.toNat ≤ 4000) ∧
     (ok 3 ↔ 1 ≤ r.vmax.toNat ∧ r.vmax.toNat ≤ 2147418112) ∧ (ok 4 ↔ 1 ≤ r.amax.toNat ∧ r.amax.toNat ≤ r.vmax.toNat) ∧
     (ok 5 ↔ r.amax.toNat ≤ r.aHalt.toNat ∧ r.aHalt.toNat ≤ r.vmax.toNat) ∧ (ok 7 ↔ r.lo.toInt < r.hi.toInt) ∧
     (ok 9 ↔ 1 ≤ r.catchStep.toNat ∧ r.catchStep.toNat ≤ 4096) ∧
     (ok 10 ↔ 1 ≤ r.vseek.toNat ∧ r.vseek.toNat ≤ r.vmax.toNat) ∧ (ok 11 ↔ r.vstick.toNat ≤ r.vmax.toNat) ∧
     (ok 12 ↔ r.deadband.toNat ≤ 8191) ∧ (ok 13 ↔ r.expo.toNat ≤ 256) ∧
     (ok 14 ↔ r.deadband.toNat ≤ r.takeThreshold.toNat ∧ r.takeThreshold.toNat ≤ 32767) ∧
     (∀ n, n = 0 ∨ n = 6 ∨ n = 8 ∨ 14 < n → ok n) ∧
     (ok 1 → axisKindCode (some q.axisKind) = r.axisKind) ∧ q.controlPeriod = r.controlPeriod.toNat ∧
     q.vmax = r.vmax.toNat ∧ q.amax = r.amax.toNat ∧ q.aHalt = r.aHalt.toNat ∧ q.lo = r.lo.toInt ∧ q.hi = r.hi.toInt ∧
     q.startWindow = r.startWindow.toNat ∧ q.catchStep = r.catchStep.toNat ∧ q.vseek = r.vseek.toNat ∧
     q.vstick = r.vstick.toNat ∧ q.deadband = r.deadband.toNat ∧ q.expo = r.expo.toNat ∧
     q.takeThreshold = r.takeThreshold.toNat) ∧
  (∀ (own : Station) (r : RawSection2),
     let ok : Nat → Prop := fun n => ∀ c ∈ section2Checks own r, c.1 = n → c.2 = true
     let q := section2Of r
     (ok 15 ↔ 1 ≤ r.feLimit.toNat ∧ r.feLimit.toNat ≤ 2147483647) ∧ (ok 16 ↔ 1 ≤ r.feCount.toNat) ∧
     (ok 17 ↔ 32 ≤ r.guardFactor.toNat ∧ r.guardFactor.toNat ≤ 256) ∧
     (ok 18 ↔ 64 ≤ r.windowSize.toNat ∧ r.windowSize.toNat ≤ 4096) ∧
     (ok 19 ↔ 1 ≤ r.badThreshold.toNat ∧ r.badThreshold.toNat ≤ r.windowSize.toNat) ∧
     (ok 20 ↔ r.couplingSource = 255 ∨ r.couplingSource.toNat < 16 ∧ r.couplingSource.toNat ≠ own.val) ∧
     (ok 21 ↔ 1 ≤ r.r0.toNat ∧ r.r0.toNat ≤ 2147483647) ∧ (ok 23 ↔ r.lmax.toNat ≤ 2147483647) ∧
     (ok 24 ↔ r.markMode.toNat ≤ 2) ∧ (ok 27 ↔ r.markAction.toNat ≤ 2) ∧
     (∀ n, n < 15 ∨ n = 22 ∨ n = 25 ∨ n = 26 ∨ 27 < n → ok n) ∧
     q.feLimit = r.feLimit.toNat ∧ q.feCount = r.feCount.toNat ∧ q.guardFactor = r.guardFactor.toNat ∧
     q.windowSize = r.windowSize.toNat ∧ q.badThreshold = r.badThreshold.toNat ∧
     (ok 20 → stationField q.couplingSource = r.couplingSource) ∧ q.r0 = r.r0.toNat ∧ q.k = r.k.toNat ∧
     q.lmax = r.lmax.toNat ∧
     (r.markMode = 0 → q.markMode = .off) ∧ (r.markMode = 1 → q.markMode = .event) ∧
     (r.markMode = 2 → q.markMode = .pattern) ∧
     (∀ n : Fin 4, q.markMask.getLsbD n.val = r.markMask.getLsbD n.val ∧
       q.markPattern.getLsbD n.val = r.markPattern.getLsbD n.val) ∧
     (r.markAction = 0 → q.markAction = .go) ∧ (r.markAction = 1 → q.markAction = .stop) ∧
     (r.markAction = 2 → q.markAction = .halt) ∧ q.goMask = r.goMask)

/-- Section 2, whose fields StartRecordSection1IsChecked ranges and reads, completes the staged section 1: the record is
frozen, and at the same arrival the markers are decided
anew, the match standing is taken and the presets are checked against the soft range. -/
def Obligations.StartRecordSection2Freezes : Prop :=
  ∀ (h : ReqHeader) (r : RawSection2) (s : State), s.serves h →
    (s.halt.station ≠ .config ∨ s.start.record.isSome = true →
      exec (.startRecordWriteSection2 h (.fields r)) s = .next (s.heard.withReply h 0x02 .frozen [])) ∧
    (s.halt.station = .config → s.start.record = none →
      (s.start.staged = none →
        exec (.startRecordWriteSection2 h (.fields r)) s = .next (s.heard.withReply h 0x02 .wrongState [])) ∧
      ∀ q, s.start.staged = some q →
        let ok : Nat → Prop := fun n => ∀ c ∈ section2Checks s.own r, c.1 = n → c.2 = true
        (∀ n, 15 ≤ n → n ≤ 28 → ¬ ok n → (∀ m < n, ok m) →
          exec (.startRecordWriteSection2 h (.fields r)) s =
            .next (s.heard.withReply h 0x02 .rejected [BitVec.ofNat 8 n])) ∧
        ((∀ n, ok n) → ∃ t w, exec (.startRecordWriteSection2 h (.fields r)) s = .next t ∧
          w = { toSection1 := q, toSection2 := section2Of r } ∧
          t.start = { record := some w, staged := none, station := s.start.station } ∧
          (∀ n : Station, t.peers.records[n] =
            if s.peers.records[n].present then
              { s.peers.records[n] with
                mismatch := s.peers.records[n].report.controlPeriod ≠ 0 &&
                  s.peers.records[n].report.controlPeriod ≠ w.controlPeriod }
            else s.peers.records[n]) ∧
          (w.markMode = .pattern → (t.mark.standing = .inMatch ↔
            ∀ n : Fin 4, w.markMask.getLsbD n.val = false →
              (s.mark.lines.at n).accepted = some (w.markPattern.getLsbD n.val))) ∧
          t.mark.lines = s.mark.lines ∧ t.mark.latched = s.mark.latched ∧ t.link.cueList = s.link.cueList ∧
          (s.store.compacting = true → t.store = { s.store with rangeCheckDue := true }) ∧
          (s.store.compacting = false → t.store = s.store.checkRanges w.lo w.hi) ∧
          t.link.replySlot = some { target := h.sender, tag := h.tag, kind := 0x02, code := .done, results := [] } ∧
          t.halt = s.halt ∧ t.blend = s.blend ∧ t.port = s.port ∧ t.running = s.running ∧ t.next = s.next))

/-- RESTART is refused BUSY during a compaction and WRONG_STATE while halting or playing; accepted, it returns the
station to CONFIG with its presets kept, everything that belongs to the shot cleared, and the frame in flight and the reply
slot kept, and a window that runs goes on with nothing offered. It is taken so whether or not the own frame is in flight
(log 28), and at an occupied reply slot it is dropped. -/
def Obligations.RestartReturnsToConfig : Prop :=
  ∀ (h : ReqHeader) (straps : Station) (s : State), s.restartMeant h →
    (s.link.replySlot.isSome = true → exec (.restart h (.fields ()) straps) s =
      .next (s.heard.mapCounters fun k => { k with reqDrop := min (k.reqDrop + 1) 65535 })) ∧
    (s.link.replySlot = none → s.store.compacting = true →
      exec (.restart h (.fields ()) straps) s = .next (s.heard.withReply h 0x03 .busy [])) ∧
    (s.link.replySlot = none → s.store.compacting = false →
      s.halt.station = .halting ∨ s.halt.station = .run ∧ s.running.state ≠ .idle →
      exec (.restart h (.fields ()) straps) s = .next (s.heard.withReply h 0x03 .wrongState [])) ∧
    (s.link.replySlot = none → s.store.compacting = false →
      ¬ (s.halt.station = .halting ∨ s.halt.station = .run ∧ s.running.state ≠ .idle) →
      ∃ t, exec (.restart h (.fields ()) straps) s = .next t ∧
        t.halt = { station := .config, causes := 0, epoch := 0, record := none } ∧
        t.start = { record := none, staged := none, station := straps } ∧
        t.store = s.heard.endRecording.store.discardDownload ∧ t.store.download = none ∧ t.store.recording = none ∧
        (s.store.download = none → s.store.recording = none → t.store = s.store) ∧
        t.next = NextSlot.empty ∧ t.running = RunningSlot.idle ∧
        t.blend = { s.blend with v := 0, atLimit := false, taking := false } ∧
        t.stick = Stick.reset ∧ t.peers = Peers.reset ∧ t.trigger = Trigger.reset ∧
        t.mark.lines = s.mark.lines ∧ t.mark.latched = none ∧ t.mark.standing = .setAside ∧
        t.port.pendingRecord = none ∧ t.port.inFlight = s.port.inFlight ∧ t.port.missRun = 0 ∧
        t.port.followingRun = 0 ∧ t.port.error = 0 ∧ t.port.lastExchange = .valid ∧
        t.port.nextSequence = s.port.nextSequence ∧ t.port.feedbackSeen = s.port.feedbackSeen ∧
        t.port.measured = s.port.measured ∧ t.port.status = s.port.status ∧ t.port.posLimit = s.port.posLimit ∧
        t.port.negLimit = s.port.negLimit ∧
        t.link.haltSlot = none ∧ t.link.cueList = [] ∧ t.link.stateSlot = none ∧ t.link.inFlight = s.link.inFlight ∧
        t.link.offer = none ∧ t.link.arrivals = 0 ∧ t.link.badArrivals = 0 ∧ t.link.linkPoor = false ∧ t.link.counters = Counters.zero ∧
        t.link.replySlot = some { target := h.sender, tag := h.tag, kind := 0x03, code := .done,
                                  results := [stationByte straps] } ∧
        t.pins = s.pins)

/-! The preset store. -/

/-- Freeing a range: the entry becomes EMPTY, HWM drops to the highest range left where the freed one ended at it, and
no other range is touched. The check of a new soft range frees every READY preset with a position outside it and keeps
the others. -/
def Obligations.RangesAreFreed : Prop :=
  (∀ (st : Store) (p : Preset), st.Sound → (st.entry p).state ≠ .empty → let t := st.free p
     t.entry p = DirEntry.empty ∧
     (∀ q : Preset, q ≠ p → t.entry q = st.entry q ∧ t.keyframes q = st.keyframes q) ∧
     ((st.entry p).first + (st.entry p).count ≠ st.hwm → t.hwm = st.hwm) ∧
     ((st.entry p).first + (st.entry p).count = st.hwm →
       (∀ q : Preset, q ≠ p → (st.entry q).state ≠ .empty → (st.entry q).first + (st.entry q).count ≤ t.hwm) ∧
       (t.hwm = 0 ∨ ∃ q : Preset, q ≠ p ∧ (st.entry q).state ≠ .empty ∧
         (st.entry q).first + (st.entry q).count = t.hwm)) ∧
     t.download = st.download ∧ t.recording = st.recording ∧ t.compacting = st.compacting) ∧
  (∀ (lo hi : Int) (st : Store), st.Sound → ∀ p : Preset,
     ((st.entry p).state = .ready → (∃ k ∈ st.keyframes p, k.position < lo ∨ hi < k.position) →
       (st.checkRanges lo hi).entry p = DirEntry.empty) ∧
     ((st.entry p).state ≠ .ready ∨ (∀ k ∈ st.keyframes p, lo ≤ k.position ∧ k.position ≤ hi) →
       (st.checkRanges lo hi).entry p = st.entry p ∧ (st.checkRanges lo hi).keyframes p = st.keyframes p))

/-- PRESET_OPEN by its table: BAD_REQUEST, WRONG_STATE, BUSY, IN_USE, FULL, or a range reserved at HWM and a download
opened, in that order, also during a compaction (log 17). The mode fields are those of the mode block, or out of range.
-/
def Obligations.PresetOpenReservesARange : Prop :=
  (∀ (h : ReqHeader) (a : OpenArgs) (s : State), s.serves h →
     (32 ≤ a.preset.toNat ∨ a.count.toNat < 2 ∨ 1024 < a.count.toNat ∨ modeFieldsOf a.fields = none →
       exec (.presetOpen h (.fields a)) s = .next (s.heard.withReply h 0x10 .badRequest [])) ∧
     (∀ (p : Preset) (f : ModeFields), a.preset = presetByte p → modeFieldsOf a.fields = some f →
       2 ≤ a.count.toNat → a.count.toNat ≤ 1024 →
       let taken := s.store.download.isSome = true ∨ s.store.recording.isSome = true ∨ s.store.compacting = true
       (s.start.record = none →
         exec (.presetOpen h (.fields a)) s = .next (s.heard.withReply h 0x10 .wrongState [])) ∧
       (s.start.record.isSome = true → taken →
         exec (.presetOpen h (.fields a)) s = .next (s.heard.withReply h 0x10 .busy [])) ∧
       (s.start.record.isSome = true → ¬ taken → s.referenced p = true →
         exec (.presetOpen h (.fields a)) s = .next (s.heard.withReply h 0x10 .inUse [])) ∧
       (s.start.record.isSome = true → ¬ taken → s.referenced p = false → 1024 < s.store.hwm + a.count.toNat →
         exec (.presetOpen h (.fields a)) s = .next (s.heard.withReply h 0x10 .full [])) ∧
       (s.start.record.isSome = true → ¬ taken → s.referenced p = false → s.store.hwm + a.count.toNat ≤ 1024 →
         ∃ t st, exec (.presetOpen h (.fields a)) s = .next t ∧
           st = (if (s.store.entry p).state = .ready then s.store.free p else s.store) ∧
           t.store.entry p = { state := .loading, first := st.hwm, count := a.count.toNat, fields := f,
                               truncated := false } ∧
           (∀ q : Preset, q ≠ p → t.store.entry q = s.store.entry q) ∧ t.store.hwm = st.hwm + a.count.toNat ∧
           t.store.download = some { owner := h.sender, preset := p, nextIndex := 0, lapse := 0 } ∧
           t.store.pool = st.pool ∧ t.store.recording = none ∧ t.store.compacting = false ∧
           t = (s.heard.setStore t.store).withReply h 0x10 .done (nat16 st.hwm)))) ∧
  (∀ b : RawModeBlock,
     (modeFieldsOf b = none ↔ 3 ≤ b.mode.toNat ∨ 2147483647 < b.trimRange.toNat ∨ b.fadeStep.toNat = 0 ∨
       4096 < b.fadeStep.toNat ∨ b.passes.toNat = 0 ∨ 2 ≤ b.cycle.toNat) ∧
     ∀ f, modeFieldsOf b = some f → modeCode f.mode = b.mode ∧ f.trimRange = b.trimRange.toNat ∧
       f.fadeStep = b.fadeStep.toNat ∧ f.handbackDelay = b.handbackDelay.toNat ∧ f.passes = b.passes.toNat ∧
       switchCode f.cycle = b.cycle)

/-- KEYFRAME_WRITE by its table: stored in order at the next expected index, the lapse count restarted by the owner
whatever the reply. -/
def Obligations.KeyframeWriteStores : Prop :=
  ∀ (h : ReqHeader) (a : WriteArgs) (s : State), s.serves h →
    (32 ≤ a.preset.toNat ∨ 1023 < a.start.toNat ∨ a.keyframes.length = 0 ∨ 4 < a.keyframes.length ∨
        (∃ k ∈ a.keyframes, 3 ≤ k.shape.toNat) →
      exec (.keyframeWrite h (.fields a)) s = .next (s.heard.withReply h 0x11 .badRequest [])) ∧
    (∀ (p : Preset), a.preset = presetByte p → a.start.toNat ≤ 1023 → 1 ≤ a.keyframes.length →
      a.keyframes.length ≤ 4 → (∀ k ∈ a.keyframes, k.shape.toNat < 3) →
      (s.store.download = none →
        exec (.keyframeWrite h (.fields a)) s = .next (s.heard.withReply h 0x11 .wrongState [])) ∧
      ∀ d, s.store.download = some d →
        (d.preset ≠ p → exec (.keyframeWrite h (.fields a)) s = .next (s.heard.withReply h 0x11 .wrongState [])) ∧
        (d.preset = p → d.owner ≠ h.sender →
          exec (.keyframeWrite h (.fields a)) s = .next (s.heard.withReply h 0x11 .notOwner [])) ∧
        (d.preset = p → d.owner = h.sender →
          let kept := s.heard.setStore { s.store with download := some { d with lapse := 0 } }
          (a.start.toNat ≠ d.nextIndex →
            exec (.keyframeWrite h (.fields a)) s = .next (kept.withReply h 0x11 .sequence (nat16 d.nextIndex))) ∧
          (a.start.toNat = d.nextIndex → (s.store.entry p).count < a.start.toNat + a.keyframes.length →
            exec (.keyframeWrite h (.fields a)) s = .next (kept.withReply h 0x11 .range [])) ∧
          (a.start.toNat = d.nextIndex → a.start.toNat + a.keyframes.length ≤ (s.store.entry p).count →
            ∃ t, exec (.keyframeWrite h (.fields a)) s = .next t ∧
              (∀ (j : Nat) (hj : j < a.keyframes.length),
                let k := t.store.pool.read ((s.store.entry p).first + a.start.toNat + j)
                k.time = (a.keyframes[j]).time.toNat ∧ k.position = (a.keyframes[j]).position.toInt ∧
                shapeCode k.shape = (a.keyframes[j]).shape) ∧
              (∀ i, i < (s.store.entry p).first + a.start.toNat ∨
                  (s.store.entry p).first + a.start.toNat + a.keyframes.length ≤ i →
                t.store.pool.read i = s.store.pool.read i) ∧
              t.store = { s.store with
                pool := t.store.pool
                download := some { d with lapse := 0, nextIndex := d.nextIndex + a.keyframes.length } } ∧
              t = (s.heard.setStore t.store).withReply h 0x11 .done (nat16 (d.nextIndex + a.keyframes.length)))))

/-- PRESET_CLOSE by its order: the four checks, then READY and DONE, or the range freed and REJECTED with the check and
the index; either way the download is closed. -/
def Obligations.PresetCloseChecks : Prop :=
  ∀ (h : ReqHeader) (b : Byte) (s : State), s.serves h →
    (32 ≤ b.toNat → exec (.presetClose h (.fields b)) s = .next (s.heard.withReply h 0x12 .badRequest [])) ∧
    (∀ p : Preset, b = presetByte p →
      (s.store.download = none → exec (.presetClose h (.fields b)) s =
        .next (s.heard.withReply h 0x12 .wrongState [])) ∧
      ∀ d, s.store.download = some d →
        (d.preset ≠ p → exec (.presetClose h (.fields b)) s = .next (s.heard.withReply h 0x12 .wrongState [])) ∧
        (d.preset = p → d.owner ≠ h.sender →
          exec (.presetClose h (.fields b)) s = .next (s.heard.withReply h 0x12 .notOwner [])) ∧
        (d.preset = p → d.owner = h.sender → 2 ≤ (s.store.entry p).count →
          let e := s.store.entry p
          let ks := s.store.keyframes p
          let rejects := fun (check index : Nat) => exec (.presetClose h (.fields b)) s =
            .next ((s.heard.setStore { s.store.free p with download := none }).withReply h 0x12 .rejected
              (BitVec.ofNat 8 check :: nat16 index))
          let time := fun i : Nat => (ks.getD i Keyframe.blank).time
          let outside := fun i : Nat => (ks.getD i Keyframe.blank).position < s.record.lo ∨
            s.record.hi < (ks.getD i Keyframe.blank).position
          (d.nextIndex ≠ e.count → rejects 1 d.nextIndex) ∧
          (d.nextIndex = e.count → time 0 ≠ 0 → rejects 2 0) ∧
          (∀ i, d.nextIndex = e.count → time 0 = 0 → i + 1 < e.count → time (i + 1) ≤ time i →
            (∀ j < i, time j < time (j + 1)) → rejects 3 (i + 1)) ∧
          (∀ i, d.nextIndex = e.count → time 0 = 0 → (∀ j, j + 1 < e.count → time j < time (j + 1)) → i < e.count →
            outside i → (∀ j < i, ¬ outside j) → rejects 4 i) ∧
          (d.nextIndex = e.count → time 0 = 0 → (∀ j, j + 1 < e.count → time j < time (j + 1)) →
            (∀ j < e.count, ¬ outside j) →
            exec (.presetClose h (.fields b)) s =
              .next ((s.heard.setStore
                { s.store.setEntry p { e with state := .ready } with download := none }).withReply h 0x12 .done []))))

/-- PRESET_ERASE and PRESET_EDIT by their tables, in the order of the tables also during a compaction (log 17). -/
def Obligations.PresetEraseAndEdit : Prop :=
  ∀ (h : ReqHeader) (b : Byte) (m : RawModeBlock) (s : State), s.serves h →
    let erase := exec (.presetErase h (.fields b)) s
    let edit := exec (.presetEdit h (.fields { preset := b, fields := m })) s
    (32 ≤ b.toNat → erase = .next (s.heard.withReply h 0x13 .badRequest [])) ∧
    (32 ≤ b.toNat ∨ modeFieldsOf m = none → edit = .next (s.heard.withReply h 0x14 .badRequest [])) ∧
    (∀ (p : Preset) (f : ModeFields), b = presetByte p → modeFieldsOf m = some f →
      (s.store.compacting = true →
        erase = .next (s.heard.withReply h 0x13 .busy []) ∧ edit = .next (s.heard.withReply h 0x14 .busy [])) ∧
      (s.store.compacting = false →
        (s.referenced p = true ∨ (s.store.entry p).state = .loading ∨ (s.store.entry p).state = .recording →
          erase = .next (s.heard.withReply h 0x13 .inUse [])) ∧
        (s.referenced p = false → (s.store.entry p).state = .empty →
          erase = .next (s.heard.withReply h 0x13 .done (nat16 s.store.hwm))) ∧
        (s.referenced p = false → (s.store.entry p).state = .ready →
          erase = .next ((s.heard.setStore (s.store.free p)).withReply h 0x13 .done
            (nat16 (s.store.free p).hwm))) ∧
        ((s.store.entry p).state ≠ .ready → edit = .next (s.heard.withReply h 0x14 .wrongState [])) ∧
        ((s.store.entry p).state = .ready → s.referenced p = true →
          edit = .next (s.heard.withReply h 0x14 .inUse [])) ∧
        ((s.store.entry p).state = .ready → s.referenced p = false →
          edit = .next ((s.heard.setStore (s.store.setEntry p { s.store.entry p with fields := f })).withReply
            h 0x14 .done []))))

/-- POOL_COMPACT is refused BUSY while a slot, a download, a recording or a compaction is in the way, and is otherwise
accepted in any station state. The completion of a compaction closes the gaps: every range moves down to where the lower
ones end, its keyframes and their order kept, HWM becomes the sum of the counts, and COMPACTING clears. -/
def Obligations.CompactionClosesTheGaps : Prop :=
  (∀ (h : ReqHeader) (s : State), s.serves h →
     let busy := s.next.state ≠ .empty ∨ s.running.state ≠ .idle ∨ s.store.download ≠ none ∨
       s.store.recording ≠ none ∨ s.store.compacting = true
     (busy → exec (.poolCompact h (.fields ())) s = .next (s.heard.withReply h 0x17 .busy [])) ∧
     (¬ busy → exec (.poolCompact h (.fields ())) s =
       .next ((s.heard.setStore { s.store with compacting := true }).withReply h 0x17 .done []))) ∧
  (∀ s : State, s.StoreSound → s.pins.rstn = true → s.store.compacting = true → s.store.rangeCheckDue = false →
     s.store.download = none → s.store.recording = none → ∃ t, exec .compactionComplete s = .next t ∧
       t = s.setStore t.store ∧ t.store.compacting = false ∧ t.store.download = none ∧ t.store.recording = none ∧
       t.store.hwm = ((presets.map fun p => (s.store.entry p).count).sum) ∧
       (∀ p : Preset, t.store.entry p = { s.store.entry p with first := (t.store.entry p).first } ∧
         t.store.keyframes p = s.store.keyframes p ∧
         ((s.store.entry p).state ≠ .empty → (t.store.entry p).first =
           ((presets.filter fun q => (s.store.entry q).first < (s.store.entry p).first).map
             fun q => (s.store.entry q).count).sum))) ∧
  (∀ s : State, s.pins.rstn = true → s.store.compacting = true → s.store.rangeCheckDue = true →
     exec .compactionComplete s = .next (s.setStore
       { s.store.compacted.checkRanges s.record.lo s.record.hi with rangeCheckDue := false }))

/-! The reports and the layouts. -/

/-- A STATE report takes every field from its owner, and its flags at their bits. The lengths of the payloads and results,
and every field at its offset: of the own status, the peer status, the counters, the directory entry, the trigger's fields,
the STATE report, the mode block, the keyframe and the setpoint record; and the codes of the enumerations. While the halt
record is absent the own status carries 255 at offset 3, and its offsets 4 to 6 are a free value (log 31).
That the bits to which the status tables give no meaning are 0 is the model's choice (log 32). -/
def Obligations.ReportFieldsAndStatusLayout : Prop :=
  (∀ s : State, let r := s.makeReport
     r.axisKind = s.start.record.map (fun q => q.axisKind) ∧ r.state = s.halt.station ∧ r.epoch = s.halt.epoch ∧
     r.causes = s.halt.causes ∧ r.measured = s.port.measured ∧
     (s.halt.station = .config → r.velocity = 0) ∧ (s.halt.station ≠ .config → r.velocity = s.blend.v) ∧
     (s.start.record = none → r.controlPeriod = 0) ∧
     (∀ q, s.start.record = some q → r.controlPeriod = q.controlPeriod) ∧
     r.cueId = s.running.cueId ∧ r.cueState = s.running.state ∧ r.cueTime = s.running.cueTime / 65536 ∧
     r.ability = s.running.ability ∧ r.stickOwner = s.stick.owner ∧ r.nextId = s.next.cueId ∧
     r.nextState = s.next.state ∧
     r.flags.getLsbD 0 = decide (s.port.status = .fault) ∧ r.flags.getLsbD 1 = s.port.posLimit ∧
     r.flags.getLsbD 2 = s.port.negLimit ∧ r.flags.getLsbD 3 = s.blend.atLimit ∧
     r.flags.getLsbD 4 = s.running.peerLost ∧ r.flags.getLsbD 5 = decide (0 < s.stick.contest) ∧
     r.flags.getLsbD 6 = s.stick.lapsed ∧
     (r.flags.getLsbD 7 = true ↔ ∃ n : Station, s.peers.records[n].present = true ∧ s.peers.records[n].age ≤ 8 ∧
       s.peers.records[n].mismatch = true) ∧
     (r.flags.getLsbD 8 = true ↔ ∃ c, s.peers.coupling = some c ∧ c.blind = true) ∧
     r.flags.getLsbD 9 = s.store.compacting ∧ r.flags.getLsbD 10 = s.link.linkPoor ∧
     (∀ i, 11 ≤ i → r.flags.getLsbD i = false)) ∧
  (∀ s : State, let b := s.ownStatus
     b.length = 60 ∧ u8 b 0 = stationStateCode s.halt.station ∧ u8 b 1 = s.halt.causes ∧ u8 b 2 = s.halt.epoch ∧
     (s.halt.record = none → u8 b 3 = 255) ∧
     (∀ r, s.halt.record = some r → u8 b 3 = stationByte r.origin ∧ u8 b 4 = r.entryCauses ∧
       u8 b 5 = r.originCauses ∧ u8 b 6 = r.entryEpoch) ∧
     u32 b 7 = BitVec.ofInt 32 s.port.measured ∧
     (u8 b 11).getLsbD 0 = decide (s.port.status = .fault) ∧ (u8 b 11).getLsbD 1 = s.port.posLimit ∧
     (u8 b 11).getLsbD 2 = s.port.negLimit ∧ (∀ i, 3 ≤ i → (u8 b 11).getLsbD i = false) ∧
     u32 b 12 = BitVec.ofNat 32 s.port.error ∧ u8 b 16 = BitVec.ofNat 8 s.port.missRun ∧
     u8 b 17 = BitVec.ofNat 8 s.port.followingRun ∧
     u32 b 18 = BitVec.ofInt 32 (min ((s.blend.x + 32768) / 65536) 2147483647) ∧
     u32 b 22 = BitVec.ofInt 32 s.blend.v ∧
     (u8 b 26).toNat = (nextStateCode s.next.state).toNat + 4 * (startConditionCode s.next.condition).toNat +
       8 * s.next.preset.val ∧
     u8 b 27 = s.next.cueId ∧
     (u8 b 28).toNat = (cueStateCode s.running.state).toNat + 4 * (modeCode s.running.mode).toNat ∧
     u8 b 29 = s.running.cueId ∧ u8 b 30 = presetByte s.running.preset ∧
     u8 b 31 = BitVec.ofNat 8 s.running.passesLeft ∧ u24 b 32 = BitVec.ofNat 24 (s.running.cueTime / 65536) ∧
     u24 b 35 = BitVec.ofNat 24 s.running.paceEff ∧ u24 b 38 = BitVec.ofNat 24 s.running.ability ∧
     u16 b 41 = BitVec.ofNat 16 s.running.takeWeight ∧ u16 b 43 = BitVec.ofNat 16 s.running.catchWeight ∧
     u32 b 45 = BitVec.ofInt 32 ((s.running.trimOffset + 32768) / 65536) ∧
     u8 b 49 = stationField s.stick.owner ∧ u16 b 50 = BitVec.ofInt 16 s.stick.deflection ∧
     u8 b 52 = BitVec.ofNat 8 s.stick.gain ∧ u8 b 53 = BitVec.ofNat 8 s.stick.holdAge ∧
     u8 b 54 = s.stick.ownerSequence ∧ u8 b 55 = BitVec.ofNat 8 s.stick.contest ∧
     (∀ n : Fin 4, (u8 b 56).toNat / 4 ^ n.val % 4 = levelCode (s.mark.lines.at n).accepted) ∧
     (s.mark.latched = none → u8 b 57 = 255) ∧
     (∀ l, s.mark.latched = some l → ∀ n : Fin 4, (u8 b 57).toNat / 4 ^ n.val % 4 = levelCode (l.at n)) ∧
     (u16 b 58).getLsbD 0 = s.blend.atLimit ∧ (u16 b 58).getLsbD 1 = s.running.peerLost ∧
     (u16 b 58).getLsbD 2 = decide (0 < s.stick.contest) ∧ (u16 b 58).getLsbD 3 = s.stick.lapsed ∧
     (u16 b 58).getLsbD 4 = s.link.linkPoor ∧ (u16 b 58).getLsbD 5 = s.store.compacting ∧
     (u16 b 58).getLsbD 6 = s.store.download.isSome ∧ (u16 b 58).getLsbD 7 = s.store.recording.isSome ∧
     (u16 b 58).getLsbD 8 = s.start.record.isSome ∧
     (u16 b 58).toNat / 2 ^ 9 % 4 = (stickPhaseCode s.stick.phase).toNat ∧
     (u16 b 58).toNat / 2 ^ 11 =
       (if s.record.markMode = .pattern then
          (match s.mark.standing with
           | .setAside => 0
           | .out => 1
           | .inMatch => 2)
        else 0)) ∧
  (∀ (s : State) (n : Station), let b := s.peerStatus n
     let q := s.peers.records[n]
     b.length = 35 ∧ u8 b 0 = stationByte n ∧ (b.drop 1).take 27 = reportBytes q.report ∧
     u8 b 28 = BitVec.ofNat 8 q.age ∧ (u8 b 29).getLsbD 0 = q.present ∧
     (u8 b 29).getLsbD 1 = (q.present && decide (q.age ≤ 8)) ∧ (u8 b 29).getLsbD 2 = q.mismatch ∧
     ((u8 b 29).getLsbD 3 = true ↔ ∃ c, s.peers.coupling = some c ∧ c.blind = true) ∧
     (∀ i, 4 ≤ i → (u8 b 29).getLsbD i = false) ∧ u8 b 30 = stationField s.record.couplingSource ∧
     (s.peers.coupling = none → u32 b 31 = 0) ∧
     (∀ c, s.peers.coupling = some c → u32 b 31 = BitVec.ofNat 32 c.value)) ∧
  (∀ r : Report, let b := reportBytes r
     b.length = 27 ∧ u8 b 0 = axisKindCode r.axisKind ∧ u8 b 1 = stationStateCode r.state ∧ u8 b 2 = r.epoch ∧
     u8 b 3 = r.causes ∧ u32 b 4 = BitVec.ofInt 32 r.measured ∧ u32 b 8 = BitVec.ofInt 32 r.velocity ∧
     u16 b 12 = r.flags ∧ u16 b 14 = BitVec.ofNat 16 r.controlPeriod ∧ u8 b 16 = r.cueId ∧
     u8 b 17 = cueStateCode r.cueState ∧ u24 b 18 = BitVec.ofNat 24 r.cueTime ∧ u24 b 21 = BitVec.ofNat 24 r.ability ∧
     u8 b 24 = stationField r.stickOwner ∧ u8 b 25 = r.nextId ∧ u8 b 26 = nextStateCode r.nextState) ∧
  (∀ c : Counters, let b := counterBytes c
     b.length = 18 ∧ u16 b 0 = BitVec.ofNat 16 c.rxGood ∧ u16 b 2 = BitVec.ofNat 16 c.rxBad ∧
     u16 b 4 = BitVec.ofNat 16 c.outDrop ∧ u16 b 6 = BitVec.ofNat 16 c.reqDrop ∧ u16 b 8 = BitVec.ofNat 16 c.cueMiss ∧
     u16 b 10 = BitVec.ofNat 16 c.stickContest ∧ u16 b 12 = BitVec.ofNat 16 c.stickGap ∧
     u16 b 14 = BitVec.ofNat 16 c.driveMiss ∧ u16 b 16 = BitVec.ofNat 16 c.loadLapse) ∧
  (∀ (st : Store) (p : Preset), let b := st.directoryBytes p
     let e := st.entry p
     b.length = 25 ∧ u8 b 0 = entryStateCode e.state ∧ u16 b 1 = BitVec.ofNat 16 e.first ∧
     u16 b 3 = BitVec.ofNat 16 e.count ∧ (b.drop 5).take 11 = modeBlockBytes e.fields ∧
     u8 b 16 = switchCode e.truncated ∧ u16 b 17 = BitVec.ofNat 16 st.hwm ∧
     u16 b 19 = BitVec.ofNat 16 ((presets.map fun q => if (st.entry q).state = .empty then 0 else (st.entry q).count).sum) ∧
     (∀ d, e.state = .loading → st.download = some d →
       u8 b 21 = stationByte d.owner ∧ u16 b 22 = BitVec.ofNat 16 d.nextIndex ∧ u8 b 24 = 0) ∧
     (∀ r, e.state = .recording → st.recording = some r → u32 b 21 = BitVec.ofNat 32 r.elapsed) ∧
     (e.state = .empty ∨ e.state = .ready → u32 b 21 = 0)) ∧
  (∀ (m : ModeFields) (k : Keyframe) (t : Trigger) (p : Setpoint),
     let b := modeBlockBytes m
     let f := keyframeBytes k
     let g := triggerBytes t
     let o := setpointBytes p
     b.length = 11 ∧ u8 b 0 = modeCode m.mode ∧ u32 b 1 = BitVec.ofNat 32 m.trimRange ∧
     u16 b 5 = BitVec.ofNat 16 m.fadeStep ∧ u16 b 7 = BitVec.ofNat 16 m.handbackDelay ∧
     u8 b 9 = BitVec.ofNat 8 m.passes ∧ u8 b 10 = switchCode m.cycle ∧
     f.length = 8 ∧ u24 f 0 = BitVec.ofNat 24 k.time ∧ u32 f 3 = BitVec.ofInt 32 k.position ∧ u8 f 7 = shapeCode k.shape ∧
     g.length = 11 ∧ u8 g 0 = stationByte t.watched ∧ u8 g 1 = senseCode t.sense ∧
     u32 g 2 = BitVec.ofInt 32 t.threshold ∧ u16 g 6 = BitVec.ofNat 16 t.hysteresis ∧ u8 g 8 = t.cueId ∧
     u16 g 9 = t.mask ∧
     o.length = 10 ∧ u8 o 0 = p.sequence ∧ u32 o 1 = BitVec.ofInt 32 p.position ∧ u32 o 5 = BitVec.ofInt 32 p.velocity ∧
     (u8 o 9).getLsbD 0 = p.enable ∧ (u8 o 9).getLsbD 1 = p.halting ∧ (∀ i, 2 ≤ i → (u8 o 9).getLsbD i = false)) ∧
  ([none, some .swing, some .boom, some .telescope, some .pan, some .tilt, some .roll, some .track,
      some .aux].map axisKindCode = [255, 0, 1, 2, 3, 4, 5, 6, 7] ∧
    [StationState.config, .run, .halting, .halted].map stationStateCode = [0, 1, 2, 3] ∧
    [CueState.idle, .playing, .held].map cueStateCode = [0, 1, 2] ∧
    [NextState.empty, .loaded, .seeking, .ready].map nextStateCode = [0, 1, 2, 3] ∧
    [StartCondition.waitGo, .follow].map startConditionCode = [0, 1] ∧
    [EntryState.empty, .loading, .recording, .ready].map entryStateCode = [0, 1, 2, 3] ∧
    [Mode.play, .trim, .take].map modeCode = [0, 1, 2] ∧ [Shape.linear, .ease, .hold].map shapeCode = [0, 1, 2] ∧
    [TriggerState.disarmed, .arming, .armed].map triggerStateCode = [0, 1, 2] ∧
    [Sense.rising, .falling].map senseCode = [0, 1] ∧ [StickPhase.live, .held, .zero].map stickPhaseCode = [0, 1, 2] ∧
    [false, true].map switchCode = [0, 1] ∧ [some false, some true, none].map levelCode = [0, 1, 2] ∧
    [ReplyCode.done, .busy, .inUse, .full, .sequence, .range, .notOwner, .rejected, .frozen, .badRequest,
      .wrongState].map replyCodeByte = [0, 1, 2, 3, 4, 5, 6, 7, 8, 9, 10] ∧
    stationField none = 255 ∧ (∀ n : Station, (stationByte n).toNat = n.val ∧ stationField (some n) = stationByte n) ∧
    ∀ p : Preset, (presetByte p).toNat = p.val)

end Statements
end

