-- ==== Sys2Proof/Laws/Arith.lean ====
section
/-! SUPPORT. The arithmetic of the Introduction: saturating counts, clamp, rounding, the floor square root; and tables. -/

namespace Sys2Proof.Machine

theorem satAdd_le (top n k : Nat) : satAdd top n k ≤ top := Nat.min_le_right _ _

theorem satAdd_mono (top : Nat) {a b k l : Nat} (h : a ≤ b) (hk : k ≤ l) : satAdd top a k ≤ satAdd top b l := by
  unfold satAdd; omega

theorem clamp_ge (a : Int) {lo hi : Int} (h : lo ≤ hi) : lo ≤ clamp a lo hi := by unfold clamp; omega

theorem clamp_le (a lo hi : Int) : clamp a lo hi ≤ hi := by unfold clamp; omega

theorem clamp_of_within {a lo hi : Int} (h1 : lo ≤ a) (h2 : a ≤ hi) : clamp a lo hi = a := by unfold clamp; omega

theorem roundAu_fu (a : Int) : roundAu (fu a) = a := by unfold roundAu fu; omega

/-- The digit-by-digit search finds the floor square root, started above no root and below the first power. -/
theorem isqrtFrom_spec (n : Nat) : ∀ (k acc : Nat), acc * acc ≤ n → n < (acc + 2 ^ k) * (acc + 2 ^ k) →
    isqrtFrom n k acc * isqrtFrom n k acc ≤ n ∧ n < (isqrtFrom n k acc + 1) * (isqrtFrom n k acc + 1)
  | 0, acc, h1, h2 => by simpa [isqrtFrom] using ⟨h1, h2⟩
  | k + 1, acc, h1, h2 => by
    unfold isqrtFrom
    split
    · rename_i h
      refine isqrtFrom_spec n k _ h ?_
      have : acc + 2 ^ k + 2 ^ k = acc + 2 ^ (k + 1) := by rw [pow_succ]; ring
      rwa [this]
    · rename_i h
      exact isqrtFrom_spec n k _ h1 (Nat.lt_of_not_le h)

/-- isqrt is the floor square root below 2^64 (Introduction, 5.2). -/
theorem isqrt_spec {n : Nat} (h : n < 2 ^ 64) : isqrt n * isqrt n ≤ n ∧ n < (isqrt n + 1) * (isqrt n + 1) :=
  isqrtFrom_spec n 32 0 (by simp) (by simpa using h)

@[simp] theorem mapTable_get {α : Type} {n : Nat} (f : α → α) (t : Vector α n) (i : Nat) (h : i < n) :
    (mapTable f t)[i] = f t[i] := by
  simp [mapTable]

end Sys2Proof.Machine
end

