-- ==== Sys2Proof/Laws/State.lean ====
section
/-! SUPPORT. What each update of State leaves in each field, so that no proof unfolds a record update. -/

namespace Sys2Proof.Machine

variable (s : State)

@[simp] theorem State.setPending_pending (v : List Instr) : (s.setPending v).pending = v := rfl
@[simp] theorem State.setPending_pins (v : List Instr) : (s.setPending v).pins = s.pins := rfl
@[simp] theorem State.setPending_store (v : List Instr) : (s.setPending v).store = s.store := rfl
@[simp] theorem State.setPending_next (v : List Instr) : (s.setPending v).next = s.next := rfl
@[simp] theorem State.setPending_running (v : List Instr) : (s.setPending v).running = s.running := rfl
@[simp] theorem State.setPending_blend (v : List Instr) : (s.setPending v).blend = s.blend := rfl
@[simp] theorem State.setPending_stick (v : List Instr) : (s.setPending v).stick = s.stick := rfl
@[simp] theorem State.setPending_peers (v : List Instr) : (s.setPending v).peers = s.peers := rfl
@[simp] theorem State.setPending_trigger (v : List Instr) : (s.setPending v).trigger = s.trigger := rfl
@[simp] theorem State.setPending_mark (v : List Instr) : (s.setPending v).mark = s.mark := rfl
@[simp] theorem State.setPending_halt (v : List Instr) : (s.setPending v).halt = s.halt := rfl
@[simp] theorem State.setPending_port (v : List Instr) : (s.setPending v).port = s.port := rfl
@[simp] theorem State.setPending_link (v : List Instr) : (s.setPending v).link = s.link := rfl
@[simp] theorem State.setPending_start (v : List Instr) : (s.setPending v).start = s.start := rfl
@[simp] theorem State.setPending_own (v : List Instr) : (s.setPending v).own = s.own := rfl
@[simp] theorem State.setPending_frozen (v : List Instr) : (s.setPending v).frozen = s.frozen := rfl
@[simp] theorem State.setPending_record (v : List Instr) : (s.setPending v).record = s.record := rfl
@[simp] theorem State.setPending_setPending (v w : List Instr) : (s.setPending v).setPending w = s.setPending w := rfl
@[simp] theorem State.setPending_self : s.setPending s.pending = s := rfl

@[simp] theorem State.setPins_pending (v : Pins) : (s.setPins v).pending = s.pending := rfl
@[simp] theorem State.setPins_pins (v : Pins) : (s.setPins v).pins = v := rfl
@[simp] theorem State.setPins_store (v : Pins) : (s.setPins v).store = s.store := rfl
@[simp] theorem State.setPins_next (v : Pins) : (s.setPins v).next = s.next := rfl
@[simp] theorem State.setPins_running (v : Pins) : (s.setPins v).running = s.running := rfl
@[simp] theorem State.setPins_blend (v : Pins) : (s.setPins v).blend = s.blend := rfl
@[simp] theorem State.setPins_stick (v : Pins) : (s.setPins v).stick = s.stick := rfl
@[simp] theorem State.setPins_peers (v : Pins) : (s.setPins v).peers = s.peers := rfl
@[simp] theorem State.setPins_trigger (v : Pins) : (s.setPins v).trigger = s.trigger := rfl
@[simp] theorem State.setPins_mark (v : Pins) : (s.setPins v).mark = s.mark := rfl
@[simp] theorem State.setPins_halt (v : Pins) : (s.setPins v).halt = s.halt := rfl
@[simp] theorem State.setPins_port (v : Pins) : (s.setPins v).port = s.port := rfl
@[simp] theorem State.setPins_link (v : Pins) : (s.setPins v).link = s.link := rfl
@[simp] theorem State.setPins_start (v : Pins) : (s.setPins v).start = s.start := rfl
@[simp] theorem State.setPins_own (v : Pins) : (s.setPins v).own = s.own := rfl
@[simp] theorem State.setPins_frozen (v : Pins) : (s.setPins v).frozen = s.frozen := rfl
@[simp] theorem State.setPins_record (v : Pins) : (s.setPins v).record = s.record := rfl
@[simp] theorem State.setPins_setPins (v w : Pins) : (s.setPins v).setPins w = s.setPins w := rfl
@[simp] theorem State.setPins_self : s.setPins s.pins = s := rfl

@[simp] theorem State.setStore_pending (v : Store) : (s.setStore v).pending = s.pending := rfl
@[simp] theorem State.setStore_pins (v : Store) : (s.setStore v).pins = s.pins := rfl
@[simp] theorem State.setStore_store (v : Store) : (s.setStore v).store = v := rfl
@[simp] theorem State.setStore_next (v : Store) : (s.setStore v).next = s.next := rfl
@[simp] theorem State.setStore_running (v : Store) : (s.setStore v).running = s.running := rfl
@[simp] theorem State.setStore_blend (v : Store) : (s.setStore v).blend = s.blend := rfl
@[simp] theorem State.setStore_stick (v : Store) : (s.setStore v).stick = s.stick := rfl
@[simp] theorem State.setStore_peers (v : Store) : (s.setStore v).peers = s.peers := rfl
@[simp] theorem State.setStore_trigger (v : Store) : (s.setStore v).trigger = s.trigger := rfl
@[simp] theorem State.setStore_mark (v : Store) : (s.setStore v).mark = s.mark := rfl
@[simp] theorem State.setStore_halt (v : Store) : (s.setStore v).halt = s.halt := rfl
@[simp] theorem State.setStore_port (v : Store) : (s.setStore v).port = s.port := rfl
@[simp] theorem State.setStore_link (v : Store) : (s.setStore v).link = s.link := rfl
@[simp] theorem State.setStore_start (v : Store) : (s.setStore v).start = s.start := rfl
@[simp] theorem State.setStore_own (v : Store) : (s.setStore v).own = s.own := rfl
@[simp] theorem State.setStore_frozen (v : Store) : (s.setStore v).frozen = s.frozen := rfl
@[simp] theorem State.setStore_record (v : Store) : (s.setStore v).record = s.record := rfl
@[simp] theorem State.setStore_setStore (v w : Store) : (s.setStore v).setStore w = s.setStore w := rfl
@[simp] theorem State.setStore_self : s.setStore s.store = s := rfl

@[simp] theorem State.setNext_pending (v : NextSlot) : (s.setNext v).pending = s.pending := rfl
@[simp] theorem State.setNext_pins (v : NextSlot) : (s.setNext v).pins = s.pins := rfl
@[simp] theorem State.setNext_store (v : NextSlot) : (s.setNext v).store = s.store := rfl
@[simp] theorem State.setNext_next (v : NextSlot) : (s.setNext v).next = v := rfl
@[simp] theorem State.setNext_running (v : NextSlot) : (s.setNext v).running = s.running := rfl
@[simp] theorem State.setNext_blend (v : NextSlot) : (s.setNext v).blend = s.blend := rfl
@[simp] theorem State.setNext_stick (v : NextSlot) : (s.setNext v).stick = s.stick := rfl
@[simp] theorem State.setNext_peers (v : NextSlot) : (s.setNext v).peers = s.peers := rfl
@[simp] theorem State.setNext_trigger (v : NextSlot) : (s.setNext v).trigger = s.trigger := rfl
@[simp] theorem State.setNext_mark (v : NextSlot) : (s.setNext v).mark = s.mark := rfl
@[simp] theorem State.setNext_halt (v : NextSlot) : (s.setNext v).halt = s.halt := rfl
@[simp] theorem State.setNext_port (v : NextSlot) : (s.setNext v).port = s.port := rfl
@[simp] theorem State.setNext_link (v : NextSlot) : (s.setNext v).link = s.link := rfl
@[simp] theorem State.setNext_start (v : NextSlot) : (s.setNext v).start = s.start := rfl
@[simp] theorem State.setNext_own (v : NextSlot) : (s.setNext v).own = s.own := rfl
@[simp] theorem State.setNext_frozen (v : NextSlot) : (s.setNext v).frozen = s.frozen := rfl
@[simp] theorem State.setNext_record (v : NextSlot) : (s.setNext v).record = s.record := rfl
@[simp] theorem State.setNext_setNext (v w : NextSlot) : (s.setNext v).setNext w = s.setNext w := rfl
@[simp] theorem State.setNext_self : s.setNext s.next = s := rfl

@[simp] theorem State.setRunning_pending (v : RunningSlot) : (s.setRunning v).pending = s.pending := rfl
@[simp] theorem State.setRunning_pins (v : RunningSlot) : (s.setRunning v).pins = s.pins := rfl
@[simp] theorem State.setRunning_store (v : RunningSlot) : (s.setRunning v).store = s.store := rfl
@[simp] theorem State.setRunning_next (v : RunningSlot) : (s.setRunning v).next = s.next := rfl
@[simp] theorem State.setRunning_running (v : RunningSlot) : (s.setRunning v).running = v := rfl
@[simp] theorem State.setRunning_blend (v : RunningSlot) : (s.setRunning v).blend = s.blend := rfl
@[simp] theorem State.setRunning_stick (v : RunningSlot) : (s.setRunning v).stick = s.stick := rfl
@[simp] theorem State.setRunning_peers (v : RunningSlot) : (s.setRunning v).peers = s.peers := rfl
@[simp] theorem State.setRunning_trigger (v : RunningSlot) : (s.setRunning v).trigger = s.trigger := rfl
@[simp] theorem State.setRunning_mark (v : RunningSlot) : (s.setRunning v).mark = s.mark := rfl
@[simp] theorem State.setRunning_halt (v : RunningSlot) : (s.setRunning v).halt = s.halt := rfl
@[simp] theorem State.setRunning_port (v : RunningSlot) : (s.setRunning v).port = s.port := rfl
@[simp] theorem State.setRunning_link (v : RunningSlot) : (s.setRunning v).link = s.link := rfl
@[simp] theorem State.setRunning_start (v : RunningSlot) : (s.setRunning v).start = s.start := rfl
@[simp] theorem State.setRunning_own (v : RunningSlot) : (s.setRunning v).own = s.own := rfl
@[simp] theorem State.setRunning_frozen (v : RunningSlot) : (s.setRunning v).frozen = s.frozen := rfl
@[simp] theorem State.setRunning_record (v : RunningSlot) : (s.setRunning v).record = s.record := rfl
@[simp] theorem State.setRunning_setRunning (v w : RunningSlot) : (s.setRunning v).setRunning w = s.setRunning w := rfl
@[simp] theorem State.setRunning_self : s.setRunning s.running = s := rfl

@[simp] theorem State.setBlend_pending (v : Blend) : (s.setBlend v).pending = s.pending := rfl
@[simp] theorem State.setBlend_pins (v : Blend) : (s.setBlend v).pins = s.pins := rfl
@[simp] theorem State.setBlend_store (v : Blend) : (s.setBlend v).store = s.store := rfl
@[simp] theorem State.setBlend_next (v : Blend) : (s.setBlend v).next = s.next := rfl
@[simp] theorem State.setBlend_running (v : Blend) : (s.setBlend v).running = s.running := rfl
@[simp] theorem State.setBlend_blend (v : Blend) : (s.setBlend v).blend = v := rfl
@[simp] theorem State.setBlend_stick (v : Blend) : (s.setBlend v).stick = s.stick := rfl
@[simp] theorem State.setBlend_peers (v : Blend) : (s.setBlend v).peers = s.peers := rfl
@[simp] theorem State.setBlend_trigger (v : Blend) : (s.setBlend v).trigger = s.trigger := rfl
@[simp] theorem State.setBlend_mark (v : Blend) : (s.setBlend v).mark = s.mark := rfl
@[simp] theorem State.setBlend_halt (v : Blend) : (s.setBlend v).halt = s.halt := rfl
@[simp] theorem State.setBlend_port (v : Blend) : (s.setBlend v).port = s.port := rfl
@[simp] theorem State.setBlend_link (v : Blend) : (s.setBlend v).link = s.link := rfl
@[simp] theorem State.setBlend_start (v : Blend) : (s.setBlend v).start = s.start := rfl
@[simp] theorem State.setBlend_own (v : Blend) : (s.setBlend v).own = s.own := rfl
@[simp] theorem State.setBlend_frozen (v : Blend) : (s.setBlend v).frozen = s.frozen := rfl
@[simp] theorem State.setBlend_record (v : Blend) : (s.setBlend v).record = s.record := rfl
@[simp] theorem State.setBlend_setBlend (v w : Blend) : (s.setBlend v).setBlend w = s.setBlend w := rfl
@[simp] theorem State.setBlend_self : s.setBlend s.blend = s := rfl

@[simp] theorem State.setStick_pending (v : Stick) : (s.setStick v).pending = s.pending := rfl
@[simp] theorem State.setStick_pins (v : Stick) : (s.setStick v).pins = s.pins := rfl
@[simp] theorem State.setStick_store (v : Stick) : (s.setStick v).store = s.store := rfl
@[simp] theorem State.setStick_next (v : Stick) : (s.setStick v).next = s.next := rfl
@[simp] theorem State.setStick_running (v : Stick) : (s.setStick v).running = s.running := rfl
@[simp] theorem State.setStick_blend (v : Stick) : (s.setStick v).blend = s.blend := rfl
@[simp] theorem State.setStick_stick (v : Stick) : (s.setStick v).stick = v := rfl
@[simp] theorem State.setStick_peers (v : Stick) : (s.setStick v).peers = s.peers := rfl
@[simp] theorem State.setStick_trigger (v : Stick) : (s.setStick v).trigger = s.trigger := rfl
@[simp] theorem State.setStick_mark (v : Stick) : (s.setStick v).mark = s.mark := rfl
@[simp] theorem State.setStick_halt (v : Stick) : (s.setStick v).halt = s.halt := rfl
@[simp] theorem State.setStick_port (v : Stick) : (s.setStick v).port = s.port := rfl
@[simp] theorem State.setStick_link (v : Stick) : (s.setStick v).link = s.link := rfl
@[simp] theorem State.setStick_start (v : Stick) : (s.setStick v).start = s.start := rfl
@[simp] theorem State.setStick_own (v : Stick) : (s.setStick v).own = s.own := rfl
@[simp] theorem State.setStick_frozen (v : Stick) : (s.setStick v).frozen = s.frozen := rfl
@[simp] theorem State.setStick_record (v : Stick) : (s.setStick v).record = s.record := rfl
@[simp] theorem State.setStick_setStick (v w : Stick) : (s.setStick v).setStick w = s.setStick w := rfl
@[simp] theorem State.setStick_self : s.setStick s.stick = s := rfl

@[simp] theorem State.setPeers_pending (v : Peers) : (s.setPeers v).pending = s.pending := rfl
@[simp] theorem State.setPeers_pins (v : Peers) : (s.setPeers v).pins = s.pins := rfl
@[simp] theorem State.setPeers_store (v : Peers) : (s.setPeers v).store = s.store := rfl
@[simp] theorem State.setPeers_next (v : Peers) : (s.setPeers v).next = s.next := rfl
@[simp] theorem State.setPeers_running (v : Peers) : (s.setPeers v).running = s.running := rfl
@[simp] theorem State.setPeers_blend (v : Peers) : (s.setPeers v).blend = s.blend := rfl
@[simp] theorem State.setPeers_stick (v : Peers) : (s.setPeers v).stick = s.stick := rfl
@[simp] theorem State.setPeers_peers (v : Peers) : (s.setPeers v).peers = v := rfl
@[simp] theorem State.setPeers_trigger (v : Peers) : (s.setPeers v).trigger = s.trigger := rfl
@[simp] theorem State.setPeers_mark (v : Peers) : (s.setPeers v).mark = s.mark := rfl
@[simp] theorem State.setPeers_halt (v : Peers) : (s.setPeers v).halt = s.halt := rfl
@[simp] theorem State.setPeers_port (v : Peers) : (s.setPeers v).port = s.port := rfl
@[simp] theorem State.setPeers_link (v : Peers) : (s.setPeers v).link = s.link := rfl
@[simp] theorem State.setPeers_start (v : Peers) : (s.setPeers v).start = s.start := rfl
@[simp] theorem State.setPeers_own (v : Peers) : (s.setPeers v).own = s.own := rfl
@[simp] theorem State.setPeers_frozen (v : Peers) : (s.setPeers v).frozen = s.frozen := rfl
@[simp] theorem State.setPeers_record (v : Peers) : (s.setPeers v).record = s.record := rfl
@[simp] theorem State.setPeers_setPeers (v w : Peers) : (s.setPeers v).setPeers w = s.setPeers w := rfl
@[simp] theorem State.setPeers_self : s.setPeers s.peers = s := rfl

@[simp] theorem State.setTrigger_pending (v : Trigger) : (s.setTrigger v).pending = s.pending := rfl
@[simp] theorem State.setTrigger_pins (v : Trigger) : (s.setTrigger v).pins = s.pins := rfl
@[simp] theorem State.setTrigger_store (v : Trigger) : (s.setTrigger v).store = s.store := rfl
@[simp] theorem State.setTrigger_next (v : Trigger) : (s.setTrigger v).next = s.next := rfl
@[simp] theorem State.setTrigger_running (v : Trigger) : (s.setTrigger v).running = s.running := rfl
@[simp] theorem State.setTrigger_blend (v : Trigger) : (s.setTrigger v).blend = s.blend := rfl
@[simp] theorem State.setTrigger_stick (v : Trigger) : (s.setTrigger v).stick = s.stick := rfl
@[simp] theorem State.setTrigger_peers (v : Trigger) : (s.setTrigger v).peers = s.peers := rfl
@[simp] theorem State.setTrigger_trigger (v : Trigger) : (s.setTrigger v).trigger = v := rfl
@[simp] theorem State.setTrigger_mark (v : Trigger) : (s.setTrigger v).mark = s.mark := rfl
@[simp] theorem State.setTrigger_halt (v : Trigger) : (s.setTrigger v).halt = s.halt := rfl
@[simp] theorem State.setTrigger_port (v : Trigger) : (s.setTrigger v).port = s.port := rfl
@[simp] theorem State.setTrigger_link (v : Trigger) : (s.setTrigger v).link = s.link := rfl
@[simp] theorem State.setTrigger_start (v : Trigger) : (s.setTrigger v).start = s.start := rfl
@[simp] theorem State.setTrigger_own (v : Trigger) : (s.setTrigger v).own = s.own := rfl
@[simp] theorem State.setTrigger_frozen (v : Trigger) : (s.setTrigger v).frozen = s.frozen := rfl
@[simp] theorem State.setTrigger_record (v : Trigger) : (s.setTrigger v).record = s.record := rfl
@[simp] theorem State.setTrigger_setTrigger (v w : Trigger) : (s.setTrigger v).setTrigger w = s.setTrigger w := rfl
@[simp] theorem State.setTrigger_self : s.setTrigger s.trigger = s := rfl

@[simp] theorem State.setMark_pending (v : Mark) : (s.setMark v).pending = s.pending := rfl
@[simp] theorem State.setMark_pins (v : Mark) : (s.setMark v).pins = s.pins := rfl
@[simp] theorem State.setMark_store (v : Mark) : (s.setMark v).store = s.store := rfl
@[simp] theorem State.setMark_next (v : Mark) : (s.setMark v).next = s.next := rfl
@[simp] theorem State.setMark_running (v : Mark) : (s.setMark v).running = s.running := rfl
@[simp] theorem State.setMark_blend (v : Mark) : (s.setMark v).blend = s.blend := rfl
@[simp] theorem State.setMark_stick (v : Mark) : (s.setMark v).stick = s.stick := rfl
@[simp] theorem State.setMark_peers (v : Mark) : (s.setMark v).peers = s.peers := rfl
@[simp] theorem State.setMark_trigger (v : Mark) : (s.setMark v).trigger = s.trigger := rfl
@[simp] theorem State.setMark_mark (v : Mark) : (s.setMark v).mark = v := rfl
@[simp] theorem State.setMark_halt (v : Mark) : (s.setMark v).halt = s.halt := rfl
@[simp] theorem State.setMark_port (v : Mark) : (s.setMark v).port = s.port := rfl
@[simp] theorem State.setMark_link (v : Mark) : (s.setMark v).link = s.link := rfl
@[simp] theorem State.setMark_start (v : Mark) : (s.setMark v).start = s.start := rfl
@[simp] theorem State.setMark_own (v : Mark) : (s.setMark v).own = s.own := rfl
@[simp] theorem State.setMark_frozen (v : Mark) : (s.setMark v).frozen = s.frozen := rfl
@[simp] theorem State.setMark_record (v : Mark) : (s.setMark v).record = s.record := rfl
@[simp] theorem State.setMark_setMark (v w : Mark) : (s.setMark v).setMark w = s.setMark w := rfl
@[simp] theorem State.setMark_self : s.setMark s.mark = s := rfl

@[simp] theorem State.setHalt_pending (v : Halt) : (s.setHalt v).pending = s.pending := rfl
@[simp] theorem State.setHalt_pins (v : Halt) : (s.setHalt v).pins = s.pins := rfl
@[simp] theorem State.setHalt_store (v : Halt) : (s.setHalt v).store = s.store := rfl
@[simp] theorem State.setHalt_next (v : Halt) : (s.setHalt v).next = s.next := rfl
@[simp] theorem State.setHalt_running (v : Halt) : (s.setHalt v).running = s.running := rfl
@[simp] theorem State.setHalt_blend (v : Halt) : (s.setHalt v).blend = s.blend := rfl
@[simp] theorem State.setHalt_stick (v : Halt) : (s.setHalt v).stick = s.stick := rfl
@[simp] theorem State.setHalt_peers (v : Halt) : (s.setHalt v).peers = s.peers := rfl
@[simp] theorem State.setHalt_trigger (v : Halt) : (s.setHalt v).trigger = s.trigger := rfl
@[simp] theorem State.setHalt_mark (v : Halt) : (s.setHalt v).mark = s.mark := rfl
@[simp] theorem State.setHalt_halt (v : Halt) : (s.setHalt v).halt = v := rfl
@[simp] theorem State.setHalt_port (v : Halt) : (s.setHalt v).port = s.port := rfl
@[simp] theorem State.setHalt_link (v : Halt) : (s.setHalt v).link = s.link := rfl
@[simp] theorem State.setHalt_start (v : Halt) : (s.setHalt v).start = s.start := rfl
@[simp] theorem State.setHalt_own (v : Halt) : (s.setHalt v).own = s.own := rfl
@[simp] theorem State.setHalt_frozen (v : Halt) : (s.setHalt v).frozen = s.frozen := rfl
@[simp] theorem State.setHalt_record (v : Halt) : (s.setHalt v).record = s.record := rfl
@[simp] theorem State.setHalt_setHalt (v w : Halt) : (s.setHalt v).setHalt w = s.setHalt w := rfl
@[simp] theorem State.setHalt_self : s.setHalt s.halt = s := rfl

@[simp] theorem State.setPort_pending (v : Port) : (s.setPort v).pending = s.pending := rfl
@[simp] theorem State.setPort_pins (v : Port) : (s.setPort v).pins = s.pins := rfl
@[simp] theorem State.setPort_store (v : Port) : (s.setPort v).store = s.store := rfl
@[simp] theorem State.setPort_next (v : Port) : (s.setPort v).next = s.next := rfl
@[simp] theorem State.setPort_running (v : Port) : (s.setPort v).running = s.running := rfl
@[simp] theorem State.setPort_blend (v : Port) : (s.setPort v).blend = s.blend := rfl
@[simp] theorem State.setPort_stick (v : Port) : (s.setPort v).stick = s.stick := rfl
@[simp] theorem State.setPort_peers (v : Port) : (s.setPort v).peers = s.peers := rfl
@[simp] theorem State.setPort_trigger (v : Port) : (s.setPort v).trigger = s.trigger := rfl
@[simp] theorem State.setPort_mark (v : Port) : (s.setPort v).mark = s.mark := rfl
@[simp] theorem State.setPort_halt (v : Port) : (s.setPort v).halt = s.halt := rfl
@[simp] theorem State.setPort_port (v : Port) : (s.setPort v).port = v := rfl
@[simp] theorem State.setPort_link (v : Port) : (s.setPort v).link = s.link := rfl
@[simp] theorem State.setPort_start (v : Port) : (s.setPort v).start = s.start := rfl
@[simp] theorem State.setPort_own (v : Port) : (s.setPort v).own = s.own := rfl
@[simp] theorem State.setPort_frozen (v : Port) : (s.setPort v).frozen = s.frozen := rfl
@[simp] theorem State.setPort_record (v : Port) : (s.setPort v).record = s.record := rfl
@[simp] theorem State.setPort_setPort (v w : Port) : (s.setPort v).setPort w = s.setPort w := rfl
@[simp] theorem State.setPort_self : s.setPort s.port = s := rfl

@[simp] theorem State.setLink_pending (v : Link) : (s.setLink v).pending = s.pending := rfl
@[simp] theorem State.setLink_pins (v : Link) : (s.setLink v).pins = s.pins := rfl
@[simp] theorem State.setLink_store (v : Link) : (s.setLink v).store = s.store := rfl
@[simp] theorem State.setLink_next (v : Link) : (s.setLink v).next = s.next := rfl
@[simp] theorem State.setLink_running (v : Link) : (s.setLink v).running = s.running := rfl
@[simp] theorem State.setLink_blend (v : Link) : (s.setLink v).blend = s.blend := rfl
@[simp] theorem State.setLink_stick (v : Link) : (s.setLink v).stick = s.stick := rfl
@[simp] theorem State.setLink_peers (v : Link) : (s.setLink v).peers = s.peers := rfl
@[simp] theorem State.setLink_trigger (v : Link) : (s.setLink v).trigger = s.trigger := rfl
@[simp] theorem State.setLink_mark (v : Link) : (s.setLink v).mark = s.mark := rfl
@[simp] theorem State.setLink_halt (v : Link) : (s.setLink v).halt = s.halt := rfl
@[simp] theorem State.setLink_port (v : Link) : (s.setLink v).port = s.port := rfl
@[simp] theorem State.setLink_link (v : Link) : (s.setLink v).link = v := rfl
@[simp] theorem State.setLink_start (v : Link) : (s.setLink v).start = s.start := rfl
@[simp] theorem State.setLink_own (v : Link) : (s.setLink v).own = s.own := rfl
@[simp] theorem State.setLink_frozen (v : Link) : (s.setLink v).frozen = s.frozen := rfl
@[simp] theorem State.setLink_record (v : Link) : (s.setLink v).record = s.record := rfl
@[simp] theorem State.setLink_setLink (v w : Link) : (s.setLink v).setLink w = s.setLink w := rfl
@[simp] theorem State.setLink_self : s.setLink s.link = s := rfl

@[simp] theorem State.setStart_pending (v : Start) : (s.setStart v).pending = s.pending := rfl
@[simp] theorem State.setStart_pins (v : Start) : (s.setStart v).pins = s.pins := rfl
@[simp] theorem State.setStart_store (v : Start) : (s.setStart v).store = s.store := rfl
@[simp] theorem State.setStart_next (v : Start) : (s.setStart v).next = s.next := rfl
@[simp] theorem State.setStart_running (v : Start) : (s.setStart v).running = s.running := rfl
@[simp] theorem State.setStart_blend (v : Start) : (s.setStart v).blend = s.blend := rfl
@[simp] theorem State.setStart_stick (v : Start) : (s.setStart v).stick = s.stick := rfl
@[simp] theorem State.setStart_peers (v : Start) : (s.setStart v).peers = s.peers := rfl
@[simp] theorem State.setStart_trigger (v : Start) : (s.setStart v).trigger = s.trigger := rfl
@[simp] theorem State.setStart_mark (v : Start) : (s.setStart v).mark = s.mark := rfl
@[simp] theorem State.setStart_halt (v : Start) : (s.setStart v).halt = s.halt := rfl
@[simp] theorem State.setStart_port (v : Start) : (s.setStart v).port = s.port := rfl
@[simp] theorem State.setStart_link (v : Start) : (s.setStart v).link = s.link := rfl
@[simp] theorem State.setStart_start (v : Start) : (s.setStart v).start = v := rfl
@[simp] theorem State.setStart_setStart (v w : Start) : (s.setStart v).setStart w = s.setStart w := rfl
@[simp] theorem State.setStart_self : s.setStart s.start = s := rfl

/-! Counting changes the traffic counters only. -/

@[simp] theorem State.mapCounters_pending (f : Counters → Counters) : (s.mapCounters f).pending = s.pending := rfl
@[simp] theorem State.mapCounters_pins (f : Counters → Counters) : (s.mapCounters f).pins = s.pins := rfl
@[simp] theorem State.mapCounters_store (f : Counters → Counters) : (s.mapCounters f).store = s.store := rfl
@[simp] theorem State.mapCounters_next (f : Counters → Counters) : (s.mapCounters f).next = s.next := rfl
@[simp] theorem State.mapCounters_running (f : Counters → Counters) : (s.mapCounters f).running = s.running := rfl
@[simp] theorem State.mapCounters_blend (f : Counters → Counters) : (s.mapCounters f).blend = s.blend := rfl
@[simp] theorem State.mapCounters_stick (f : Counters → Counters) : (s.mapCounters f).stick = s.stick := rfl
@[simp] theorem State.mapCounters_peers (f : Counters → Counters) : (s.mapCounters f).peers = s.peers := rfl
@[simp] theorem State.mapCounters_trigger (f : Counters → Counters) : (s.mapCounters f).trigger = s.trigger := rfl
@[simp] theorem State.mapCounters_mark (f : Counters → Counters) : (s.mapCounters f).mark = s.mark := rfl
@[simp] theorem State.mapCounters_halt (f : Counters → Counters) : (s.mapCounters f).halt = s.halt := rfl
@[simp] theorem State.mapCounters_port (f : Counters → Counters) : (s.mapCounters f).port = s.port := rfl
@[simp] theorem State.mapCounters_start (f : Counters → Counters) : (s.mapCounters f).start = s.start := rfl
@[simp] theorem State.mapCounters_link_haltSlot (f : Counters → Counters) : (s.mapCounters f).link.haltSlot = s.link.haltSlot := rfl
@[simp] theorem State.mapCounters_link_cueList (f : Counters → Counters) : (s.mapCounters f).link.cueList = s.link.cueList := rfl
@[simp] theorem State.mapCounters_link_stateSlot (f : Counters → Counters) : (s.mapCounters f).link.stateSlot = s.link.stateSlot := rfl
@[simp] theorem State.mapCounters_link_replySlot (f : Counters → Counters) : (s.mapCounters f).link.replySlot = s.link.replySlot := rfl
@[simp] theorem State.mapCounters_link_inFlight (f : Counters → Counters) : (s.mapCounters f).link.inFlight = s.link.inFlight := rfl
@[simp] theorem State.mapCounters_link_offer (f : Counters → Counters) : (s.mapCounters f).link.offer = s.link.offer := rfl
@[simp] theorem State.mapCounters_link_arrivals (f : Counters → Counters) : (s.mapCounters f).link.arrivals = s.link.arrivals := rfl
@[simp] theorem State.mapCounters_link_badArrivals (f : Counters → Counters) : (s.mapCounters f).link.badArrivals = s.link.badArrivals := rfl
@[simp] theorem State.mapCounters_link_linkPoor (f : Counters → Counters) : (s.mapCounters f).link.linkPoor = s.link.linkPoor := rfl
@[simp] theorem State.mapCounters_link_counters (f : Counters → Counters) :
    (s.mapCounters f).link.counters = f s.link.counters := rfl
@[simp] theorem State.mapCounters_own (f : Counters → Counters) : (s.mapCounters f).own = s.own := rfl
@[simp] theorem State.mapCounters_frozen (f : Counters → Counters) : (s.mapCounters f).frozen = s.frozen := rfl
@[simp] theorem State.mapCounters_record (f : Counters → Counters) : (s.mapCounters f).record = s.record := rfl

end Sys2Proof.Machine
end

