-- ==== Sys2Proof/Laws/Ops.lean ====
section
/-! SUPPORT. What the shared operations over several blocks can do, one lemma for each case: arrivals and requests (R105, R168,
R172), raised causes (R128, R129), halts from outside (R130, R131), the entry to HALTING (R132), the outbound list (R164), the
missed exchange and the handover (R146, R149). -/

namespace Sys2Proof.Machine

variable {s t : State}

/-! Arrivals. -/

theorem State.arrive_deaf {n : Station} {act : State → State} (h : s.deaf = true) : s.arrive n act = s := by
  simp [State.arrive, State.arriveUnless, h]

theorem State.arrive_clash {act : State → State} (h : s.deaf = false) :
    s.arrive s.own act = s.heard.raise causeNumberClash := by
  simp [State.arrive, State.arriveUnless, h, State.heard]

theorem State.hears.not_deaf {n : Station} (h : s.hears n) : s.deaf = false := by
  obtain ⟨h1, h2, -⟩ := h
  simp [State.deaf, h1, h2]

/-- A good arrival that is heard is counted and reaches its block. -/
theorem State.arrive_heard {n : Station} {act : State → State} (h : s.hears n) : s.arrive n act = act s.heard := by
  have := h.2.2
  simp [State.arrive, State.arriveUnless, h.not_deaf, this, State.heard]

/-- Counting an arrival changes the link interface only: the error window, the counters and the offer. -/
theorem State.heard_eq : s.heard = s.setLink s.heard.link := rfl

@[simp] theorem State.heard_pins : s.heard.pins = s.pins := rfl
@[simp] theorem State.heard_store : s.heard.store = s.store := rfl
@[simp] theorem State.heard_next : s.heard.next = s.next := rfl
@[simp] theorem State.heard_running : s.heard.running = s.running := rfl
@[simp] theorem State.heard_blend : s.heard.blend = s.blend := rfl
@[simp] theorem State.heard_stick : s.heard.stick = s.stick := rfl
@[simp] theorem State.heard_peers : s.heard.peers = s.peers := rfl
@[simp] theorem State.heard_trigger : s.heard.trigger = s.trigger := rfl
@[simp] theorem State.heard_mark : s.heard.mark = s.mark := rfl
@[simp] theorem State.heard_halt : s.heard.halt = s.halt := rfl
@[simp] theorem State.heard_port : s.heard.port = s.port := rfl
@[simp] theorem State.heard_start : s.heard.start = s.start := rfl
@[simp] theorem State.heard_pending : s.heard.pending = s.pending := rfl
@[simp] theorem State.heard_own : s.heard.own = s.own := rfl
@[simp] theorem State.heard_frozen : s.heard.frozen = s.frozen := rfl
@[simp] theorem State.heard_record : s.heard.record = s.record := rfl

/-- The error window touches its two counts and LINK_POOR only. -/
theorem Link.windowStep_frame (l : Link) (bad fr : Bool) (n b : Nat) :
    (l.windowStep bad fr n b).haltSlot = l.haltSlot ∧ (l.windowStep bad fr n b).cueList = l.cueList ∧
    (l.windowStep bad fr n b).stateSlot = l.stateSlot ∧ (l.windowStep bad fr n b).replySlot = l.replySlot ∧
    (l.windowStep bad fr n b).inFlight = l.inFlight ∧ (l.windowStep bad fr n b).offer = l.offer ∧
    (l.windowStep bad fr n b).counters = l.counters := by
  unfold Link.windowStep
  dsimp only
  split <;> exact ⟨rfl, rfl, rfl, rfl, rfl, rfl, rfl⟩

/-- An arrival leaves the outbound list and the frame in flight as they stand. -/
theorem State.countArrival_list (bad : Bool) :
    (s.countArrival bad).link.haltSlot = s.link.haltSlot ∧ (s.countArrival bad).link.cueList = s.link.cueList ∧
    (s.countArrival bad).link.stateSlot = s.link.stateSlot ∧ (s.countArrival bad).link.replySlot = s.link.replySlot ∧
    (s.countArrival bad).link.inFlight = s.link.inFlight := by
  have h := Link.windowStep_frame
    (s.mapCounters fun c => if bad then { c with rxBad := satAdd 65535 c.rxBad 1 }
      else { c with rxGood := satAdd 65535 c.rxGood 1 }).link bad s.frozen s.record.windowSize s.record.badThreshold
  exact ⟨h.1, h.2.1, h.2.2.1, h.2.2.2.1, h.2.2.2.2.1⟩

/-- An arrival withdraws the offer of a running window (R161). -/
@[simp] theorem State.countArrival_offer (bad : Bool) : (s.countArrival bad).link.offer = none := rfl

@[simp] theorem State.heard_haltSlot : s.heard.link.haltSlot = s.link.haltSlot := (State.countArrival_list false).1
@[simp] theorem State.heard_cueList : s.heard.link.cueList = s.link.cueList := (State.countArrival_list false).2.1
@[simp] theorem State.heard_stateSlot : s.heard.link.stateSlot = s.link.stateSlot :=
  (State.countArrival_list false).2.2.1
@[simp] theorem State.heard_replySlot : s.heard.link.replySlot = s.link.replySlot :=
  (State.countArrival_list false).2.2.2.1
@[simp] theorem State.heard_inFlight : s.heard.link.inFlight = s.link.inFlight :=
  (State.countArrival_list false).2.2.2.2

/-! Requests. -/

/-! The steps of R172 on a counted request. -/

theorem State.takeRequest_other {h : ReqHeader} {kind : Byte} {owner : State → Answer}
    (ht : h.target ≠ stationByte s.own) : s.takeRequest h kind owner = s := if_pos ht

theorem State.takeRequest_dropped {h : ReqHeader} {kind : Byte} {owner : State → Answer}
    (ht : h.target = stationByte s.own) (hr : s.link.replySlot.isSome = true) :
    s.takeRequest h kind owner = s.countReqDrop := by
  simp [State.takeRequest, ht, hr]

theorem State.takeRequest_served {h : ReqHeader} {kind : Byte} {owner : State → Answer}
    (ht : h.target = stationByte s.own) (hr : s.link.replySlot = none) :
    s.takeRequest h kind owner = (owner s).reply h kind := by
  simp [State.takeRequest, ht, hr]

/-- A request that reaches its owner is decided on the counted state, and its answer goes to the reply slot. -/
theorem State.request_served {h : ReqHeader} {kind : Byte} {owner : State → Answer} (hs : s.serves h) :
    s.request h kind owner = (owner s.heard).reply h kind :=
  (State.arrive_heard hs.1).trans (State.takeRequest_served hs.2.1 ((State.heard_replySlot).trans hs.2.2))

theorem State.request_other {h : ReqHeader} {kind : Byte} {owner : State → Answer} (hs : s.hears h.sender)
    (ht : h.target ≠ stationByte s.own) : s.request h kind owner = s.heard :=
  (State.arrive_heard hs).trans (State.takeRequest_other ht)

theorem State.request_dropped {h : ReqHeader} {kind : Byte} {owner : State → Answer} (hs : s.hears h.sender)
    (ht : h.target = stationByte s.own) (hr : s.link.replySlot.isSome = true) :
    s.request h kind owner = s.heard.countReqDrop :=
  (State.arrive_heard hs).trans (State.takeRequest_dropped ht ((State.heard_replySlot (s := s)).symm ▸ hr))

/-- RESTART goes the path of every request where the own frame is not in flight. -/
theorem execRestart_heard {h : ReqHeader} {args : Sized Unit} {n : Station} (hs : s.hears h.sender) :
    execRestart h args n s =
      .next (s.request h 0x03 (State.withArgs args fun _ => restartAnswer n)) := by
  have hd : s.deafToRestart h = s.deaf := by simp [State.deafToRestart, State.deaf, hs.1, hs.2.1]
  simp only [execRestart, State.request, State.arrive, hd]

/-- A RESTART meant for this station is taken by the steps of R172 whether or not the own frame is in flight (R166). -/
theorem execRestart_meant {h : ReqHeader} {args : Sized Unit} {n : Station} (hr : s.pins.rstn = true)
    (hn : h.sender ≠ s.own) (ht : h.target = stationByte s.own) :
    execRestart h args n s =
      .next (s.heard.takeRequest h 0x03 (State.withArgs args fun _ => restartAnswer n)) := by
  simp [execRestart, State.arriveUnless, State.deafToRestart, State.heard, hr, hn, ht]

@[simp] theorem State.answer_reply (code : ReplyCode) (h : ReqHeader) (kind : Byte) :
    (s.answer code).reply h kind = s.withReply h kind code [] := rfl

@[simp] theorem State.done_reply (results : List Byte) (h : ReqHeader) (kind : Byte) :
    (s.done results).reply h kind = s.withReply h kind .done results := rfl

@[simp] theorem State.withArgs_wrongLength {α : Type} (owner : α → State → Answer) :
    State.withArgs .wrongLength owner s = s.answer .badRequest := rfl

@[simp] theorem State.withArgs_fields {α : Type} (a : α) (owner : α → State → Answer) :
    State.withArgs (.fields a) owner s = owner a s := rfl

/-! Causes. -/

@[simp] theorem State.raise_none : s.raise 0#8 = s := if_pos rfl

theorem State.raise_run {c : Causes} (h : s.halt.station = .run) (hc : c ≠ 0) : s.raise c = s.localFault c := by
  rw [State.raise, if_neg hc, h]

theorem State.raise_halting {c : Causes} (h : s.halt.station = .halting ∨ s.halt.station = .halted) (hc : c ≠ 0) :
    s.raise c = s.latch c := by
  rcases h with h | h <;> rw [State.raise, if_neg hc, h]

theorem State.raise_config {c : Causes} (h : s.halt.station = .config) (hc : c ≠ 0) :
    s.raise c = s.latch (c &&& causeNumberClash) := by
  rw [State.raise, if_neg hc, h]

theorem State.haltFromOutside_run {c oc : Causes} {o : Station} (h : s.halt.station = .run) :
    s.haltFromOutside c o oc = ((s.latch c).recordHalt o c oc).enterHalting := by
  simp [State.haltFromOutside, h]

theorem State.haltFromOutside_halting {c oc : Causes} {o : Station}
    (h : s.halt.station = .halting ∨ s.halt.station = .halted) : s.haltFromOutside c o oc = s.latch c := by
  rcases h with h | h <;> simp [State.haltFromOutside, h]

theorem State.haltFromOutside_config {c oc : Causes} {o : Station} (h : s.halt.station = .config) :
    s.haltFromOutside c o oc = s := by
  simp [State.haltFromOutside, h]

/-! The end of a recording touches the store and, where it is too short, CUE_MISS. -/

theorem State.closeRecording_recording (r : Recording) (b : Bool) : (s.closeRecording r b).store.recording = none := by
  unfold State.closeRecording
  split <;> rfl

theorem State.endRecording_recording : s.endRecording.store.recording = none := by
  unfold State.endRecording
  split
  · assumption
  · split <;> exact State.closeRecording_recording _ _

/-- Everything but the store and CUE_MISS stands through the end of a recording. -/
theorem State.closeRecording_frame (r : Recording) (b : Bool) :
    s.closeRecording r b = ((s.setStore (s.closeRecording r b).store).setLink (s.closeRecording r b).link) := by
  unfold State.closeRecording
  split <;> rfl

theorem State.endRecording_frame :
    s.endRecording = ((s.setStore s.endRecording.store).setLink s.endRecording.link) := by
  unfold State.endRecording
  split
  · rfl
  · split
    · conv_lhs => rw [State.closeRecording_frame]
      rfl
    · exact State.closeRecording_frame _ _

@[simp] theorem State.endRecording_halt : s.endRecording.halt = s.halt := by rw [State.endRecording_frame]; rfl
@[simp] theorem State.endRecording_running : s.endRecording.running = s.running := by rw [State.endRecording_frame]; rfl
@[simp] theorem State.endRecording_next : s.endRecording.next = s.next := by rw [State.endRecording_frame]; rfl
@[simp] theorem State.endRecording_blend : s.endRecording.blend = s.blend := by rw [State.endRecording_frame]; rfl
@[simp] theorem State.endRecording_stick : s.endRecording.stick = s.stick := by rw [State.endRecording_frame]; rfl
@[simp] theorem State.endRecording_peers : s.endRecording.peers = s.peers := by rw [State.endRecording_frame]; rfl
@[simp] theorem State.endRecording_trigger : s.endRecording.trigger = s.trigger := by rw [State.endRecording_frame]; rfl
@[simp] theorem State.endRecording_mark : s.endRecording.mark = s.mark := by rw [State.endRecording_frame]; rfl
@[simp] theorem State.endRecording_port : s.endRecording.port = s.port := by rw [State.endRecording_frame]; rfl
@[simp] theorem State.endRecording_start : s.endRecording.start = s.start := by rw [State.endRecording_frame]; rfl
@[simp] theorem State.endRecording_pins : s.endRecording.pins = s.pins := by rw [State.endRecording_frame]; rfl
@[simp] theorem State.endRecording_pending : s.endRecording.pending = s.pending := by
  rw [State.endRecording_frame]; rfl

/-! The entry to HALTING (R132). -/

@[simp] theorem State.enterHalting_halt : s.enterHalting.halt = { s.halt with station := .halting } := by
  simp [State.enterHalting, State.idleCue]

@[simp] theorem State.enterHalting_running : s.enterHalting.running = RunningSlot.idle := rfl

@[simp] theorem State.enterHalting_next : s.enterHalting.next = s.next.backToLoaded := by
  simp [State.enterHalting, State.idleCue]

@[simp] theorem State.enterHalting_blend : s.enterHalting.blend = { s.blend with taking := false } := by
  simp [State.enterHalting, State.idleCue]

@[simp] theorem State.enterHalting_trigger : s.enterHalting.trigger = { s.trigger with state := .disarmed } := by
  simp [State.enterHalting, State.idleCue]

@[simp] theorem State.enterHalting_store : s.enterHalting.store = s.endRecording.store := rfl
@[simp] theorem State.enterHalting_link : s.enterHalting.link = s.endRecording.link := rfl

@[simp] theorem State.enterHalting_stick : s.enterHalting.stick = s.stick := by
  simp [State.enterHalting, State.idleCue]

@[simp] theorem State.enterHalting_peers : s.enterHalting.peers = s.peers := by
  simp [State.enterHalting, State.idleCue]

@[simp] theorem State.enterHalting_mark : s.enterHalting.mark = s.mark := by
  simp [State.enterHalting, State.idleCue]

@[simp] theorem State.enterHalting_port : s.enterHalting.port = s.port := by
  simp [State.enterHalting, State.idleCue]

@[simp] theorem State.enterHalting_start : s.enterHalting.start = s.start := by
  simp [State.enterHalting, State.idleCue]

@[simp] theorem State.enterHalting_pins : s.enterHalting.pins = s.pins := by
  simp [State.enterHalting, State.idleCue]

@[simp] theorem State.enterHalting_pending : s.enterHalting.pending = s.pending := by
  simp [State.enterHalting, State.idleCue]

theorem State.closeRecording_setHalt (r : Recording) (b : Bool) (h : Halt) :
    (s.setHalt h).closeRecording r b = (s.closeRecording r b).setHalt h := by
  unfold State.closeRecording
  rw [State.setHalt_store]
  split <;> rfl

/-- The end of a recording does not read halt control. -/
theorem State.endRecording_setHalt (h : Halt) : (s.setHalt h).endRecording = s.endRecording.setHalt h := by
  unfold State.endRecording
  rw [State.setHalt_store]
  split
  · rfl
  · rename_i r _
    split
    · exact State.closeRecording_setHalt (s := s.capture r r.elapsed) r false h
    · exact State.closeRecording_setHalt r false h

/-- The entry to HALTING reads nothing of halt control but what it keeps. -/
theorem State.enterHalting_setHalt (h : Halt) :
    (s.setHalt h).enterHalting = s.enterHalting.setHalt { h with station := .halting } := by
  unfold State.enterHalting
  rw [State.endRecording_setHalt]
  rfl

/-- A halt from outside in RUN: REMOTE or PEER latched, the halt record written, HALTING entered. -/
theorem State.haltFromOutside_run_eq {c oc : Causes} {o : Station} (h : s.halt.station = .run) :
    s.haltFromOutside c o oc = s.enterHalting.setHalt
      { station := .halting, causes := s.halt.causes ||| c, epoch := s.halt.epoch,
        record := some { origin := o, entryCauses := c, originCauses := oc, entryEpoch := s.halt.epoch } } := by
  rw [State.haltFromOutside_run h]
  exact State.enterHalting_setHalt (s := s)
    { s.halt with causes := s.halt.causes ||| c,
                  record := some { origin := o, entryCauses := c, originCauses := oc, entryEpoch := s.halt.epoch } }

/-- A local fault in RUN (R129). -/
theorem State.localFault_eq (c : Causes) :
    s.localFault c = (s.enterHalting.setHalt
      { station := .halting, causes := s.halt.causes ||| c, epoch := s.halt.epoch,
        record := some { origin := s.own, entryCauses := c, originCauses := c, entryEpoch := s.halt.epoch } }).setLink
      { s.enterHalting.link with haltSlot := some { origin := s.own, causes := c, epoch := s.halt.epoch } } := by
  have : ((s.latch c).recordHalt s.own c c).enterHalting = s.enterHalting.setHalt
      { station := .halting, causes := s.halt.causes ||| c, epoch := s.halt.epoch,
        record := some { origin := s.own, entryCauses := c, originCauses := c, entryEpoch := s.halt.epoch } } :=
    State.enterHalting_setHalt (s := s)
      { s.halt with causes := s.halt.causes ||| c,
                    record := some { origin := s.own, entryCauses := c, originCauses := c,
                                     entryEpoch := s.halt.epoch } }
  unfold State.localFault
  rw [this]
  rfl

/-! The outbound list (R164). -/

theorem State.placeCue_room {f : CueFrame} (h : s.link.cueList.length < 4) :
    s.placeCue f = s.setLink { s.link with cueList := s.link.cueList ++ [f] } := by
  simp [State.placeCue, h]

theorem State.placeCue_full {f : CueFrame} (h : ¬ s.link.cueList.length < 4) : s.placeCue f = s.countOutDrop := by
  simp [State.placeCue, h]

/-! The trigger's evaluation (R115 to R117). -/

/-- An evaluation of the trigger touches the link and the trigger record only (R115 to R117). -/
theorem State.evaluateTrigger_eq (reported : StationState) (p : Int) :
    s.evaluateTrigger reported p =
      (s.setLink (s.evaluateTrigger reported p).link).setTrigger (s.evaluateTrigger reported p).trigger := by
  unfold State.evaluateTrigger State.placeCue
  split
  · split
    · rfl
    · split <;> rfl
    · split
      · split <;> rfl
      · rfl
  · rfl

/-- Outside RUN, or DISARMED, there is no evaluation (R115). -/
theorem State.evaluateTrigger_off {reported : StationState} {p : Int}
    (h : s.halt.station ≠ .run ∨ s.trigger.state = .disarmed) : s.evaluateTrigger reported p = s := by
  unfold State.evaluateTrigger
  rcases h with h | h
  · exact if_neg fun k => h k.1
  · rw [h]
    split <;> rfl

/-- An evaluation reads the station state, the trigger record and the link alone. -/
theorem State.evaluateTrigger_congr {t : State} (reported : StationState) (p : Int)
    (h1 : s.halt.station = t.halt.station) (h2 : s.trigger = t.trigger) (h3 : s.link = t.link) :
    (s.evaluateTrigger reported p).trigger = (t.evaluateTrigger reported p).trigger ∧
    (s.evaluateTrigger reported p).link = (t.evaluateTrigger reported p).link := by
  unfold State.evaluateTrigger State.placeCue State.countOutDrop State.mapCounters
  rw [h1, h2, h3]
  split
  · split
    · exact ⟨h2, h3⟩
    · split
      · exact ⟨rfl, h3⟩
      · exact ⟨h2, h3⟩
    · split
      · split <;> exact ⟨rfl, rfl⟩
      · exact ⟨h2, h3⟩
  · exact ⟨h2, h3⟩

/-! The drive port (R147, R149). -/

/-- An exchange moves the pending record into flight, or nothing happens. -/
theorem State.tryExchange_cases :
    s.tryExchange = s ∨ ∃ p, s.port.pendingRecord = some p ∧ s.port.inFlight = none ∧ s.pins.drdy = true ∧
      s.tryExchange = s.setPort { s.port with pendingRecord := none, inFlight := some p } := by
  unfold State.tryExchange
  split
  · split
    · rename_i p h1 h2 h3
      exact .inr ⟨p, h1, h2, h3, rfl⟩
    · exact .inl rfl
  · exact .inl rfl

theorem State.missExchange_quiet (h : satAdd 255 s.port.missRun 1 ≠ 3) :
    s.missExchange =
      (s.setPort { s.port with lastExchange := .missed, missRun := satAdd 255 s.port.missRun 1 }).countDriveMiss := by
  simp only [State.missExchange, causeIf, h, decide_false, Bool.false_eq_true, if_false]
  exact State.raise_none

end Sys2Proof.Machine
end

