-- ==== Sys2Proof/Laws/Frames.lean ====
section
/-! SUPPORT. What a raised cause, a missed exchange, the start of an exchange and a handover leave unchanged (R128, R129, R146,
R147, R149), field by field. -/

namespace Sys2Proof.Machine

variable {s : State}

/-! A raised cause. -/

theorem State.raise_cases (c : Causes) :
    s.raise c = s ∨ (s.halt.station = .run ∧ c ≠ 0 ∧ s.raise c = s.localFault c) ∨
    (s.halt.station ≠ .run ∧ ∃ d, (d = c ∨ d = c &&& causeNumberClash) ∧ s.raise c = s.latch d) := by
  by_cases hc : c = 0
  · subst hc
    exact .inl State.raise_none
  · cases h : s.halt.station with
    | run => exact .inr (.inl ⟨rfl, hc, State.raise_run h hc⟩)
    | config => exact .inr (.inr ⟨by decide, _, .inr rfl, State.raise_config h hc⟩)
    | halting => exact .inr (.inr ⟨by decide, _, .inl rfl, State.raise_halting (.inl h) hc⟩)
    | halted => exact .inr (.inr ⟨by decide, _, .inl rfl, State.raise_halting (.inr h) hc⟩)

/-- What no raised cause touches in the other blocks. -/
theorem State.raise_frame (c : Causes) :
    (s.raise c).pending = s.pending ∧ (s.raise c).pins = s.pins ∧ (s.raise c).stick = s.stick ∧
    (s.raise c).peers = s.peers ∧ (s.raise c).mark = s.mark ∧ (s.raise c).port = s.port ∧
    (s.raise c).start = s.start ∧ (s.raise c).halt.epoch = s.halt.epoch ∧ (s.raise c).blend.x = s.blend.x ∧
    (s.raise c).blend.v = s.blend.v ∧ (s.raise c).blend.atLimit = s.blend.atLimit ∧
    (s.raise c).store.download = s.store.download := by
  have hd : s.endRecording.store.download = s.store.download := by
    unfold State.endRecording
    split
    · rfl
    · split <;> unfold State.closeRecording <;> split <;> rfl
  rcases State.raise_cases (s := s) c with h | ⟨-, -, h⟩ | ⟨-, d, -, h⟩ <;> rw [h]
  · exact ⟨rfl, rfl, rfl, rfl, rfl, rfl, rfl, rfl, rfl, rfl, rfl, rfl⟩
  · rw [State.localFault_eq]
    simp [hd]
  · exact ⟨rfl, rfl, rfl, rfl, rfl, rfl, rfl, rfl, rfl, rfl, rfl, rfl⟩

@[simp] theorem State.raise_pending (c : Causes) : (s.raise c).pending = s.pending := (State.raise_frame c).1
@[simp] theorem State.raise_pins (c : Causes) : (s.raise c).pins = s.pins := (State.raise_frame c).2.1
@[simp] theorem State.raise_stick (c : Causes) : (s.raise c).stick = s.stick := (State.raise_frame c).2.2.1
@[simp] theorem State.raise_peers (c : Causes) : (s.raise c).peers = s.peers := (State.raise_frame c).2.2.2.1
@[simp] theorem State.raise_mark (c : Causes) : (s.raise c).mark = s.mark := (State.raise_frame c).2.2.2.2.1
@[simp] theorem State.raise_port (c : Causes) : (s.raise c).port = s.port := (State.raise_frame c).2.2.2.2.2.1
@[simp] theorem State.raise_start (c : Causes) : (s.raise c).start = s.start := (State.raise_frame c).2.2.2.2.2.2.1
@[simp] theorem State.raise_epoch (c : Causes) : (s.raise c).halt.epoch = s.halt.epoch :=
  (State.raise_frame c).2.2.2.2.2.2.2.1
@[simp] theorem State.raise_blend_x (c : Causes) : (s.raise c).blend.x = s.blend.x :=
  (State.raise_frame c).2.2.2.2.2.2.2.2.1
@[simp] theorem State.raise_blend_v (c : Causes) : (s.raise c).blend.v = s.blend.v :=
  (State.raise_frame c).2.2.2.2.2.2.2.2.2.1
@[simp] theorem State.raise_atLimit (c : Causes) : (s.raise c).blend.atLimit = s.blend.atLimit :=
  (State.raise_frame c).2.2.2.2.2.2.2.2.2.2.1
@[simp] theorem State.raise_download (c : Causes) : (s.raise c).store.download = s.store.download :=
  (State.raise_frame c).2.2.2.2.2.2.2.2.2.2.2
@[simp] theorem State.raise_own (c : Causes) : (s.raise c).own = s.own := by simp [State.own]
@[simp] theorem State.raise_record (c : Causes) : (s.raise c).record = s.record := by simp [State.record]
@[simp] theorem State.raise_frozen (c : Causes) : (s.raise c).frozen = s.frozen := by simp [State.frozen]

/-- Outside RUN a raised cause changes the latched causes only. -/
theorem State.raise_outside (c : Causes) (h : s.halt.station ≠ .run) :
    s.raise c = s.setHalt { s.halt with causes := (s.raise c).halt.causes } := by
  rcases State.raise_cases (s := s) c with h' | ⟨h', -, -⟩ | ⟨-, d, -, h'⟩
  · rw [h']; rfl
  · exact absurd h' h
  · rw [h']; rfl

/-- The end of a recording leaves the outbound list as it stands. -/
theorem State.endRecording_list :
    s.endRecording.link.haltSlot = s.link.haltSlot ∧ s.endRecording.link.cueList = s.link.cueList ∧
    s.endRecording.link.stateSlot = s.link.stateSlot ∧ s.endRecording.link.replySlot = s.link.replySlot ∧
    s.endRecording.link.inFlight = s.link.inFlight ∧ s.endRecording.link.offer = s.link.offer := by
  unfold State.endRecording
  split
  · exact ⟨rfl, rfl, rfl, rfl, rfl, rfl⟩
  · split <;> (unfold State.closeRecording; split <;> exact ⟨rfl, rfl, rfl, rfl, rfl, rfl⟩)

/-- A raised cause touches the HALT slot of the outbound list only. -/
theorem State.raise_list (c : Causes) :
    (s.raise c).link.cueList = s.link.cueList ∧ (s.raise c).link.stateSlot = s.link.stateSlot ∧
    (s.raise c).link.replySlot = s.link.replySlot ∧ (s.raise c).link.inFlight = s.link.inFlight ∧
    (s.raise c).link.offer = s.link.offer := by
  obtain ⟨-, h2, h3, h4, h5, h6⟩ := State.endRecording_list (s := s)
  rcases State.raise_cases (s := s) c with h | ⟨-, -, h⟩ | ⟨-, d, -, h⟩ <;> rw [h]
  · exact ⟨rfl, rfl, rfl, rfl, rfl⟩
  · rw [State.localFault_eq]
    exact ⟨h2, h3, h4, h5, h6⟩
  · exact ⟨rfl, rfl, rfl, rfl, rfl⟩

@[simp] theorem State.raise_stateSlot (c : Causes) : (s.raise c).link.stateSlot = s.link.stateSlot :=
  (State.raise_list c).2.1
@[simp] theorem State.raise_replySlot (c : Causes) : (s.raise c).link.replySlot = s.link.replySlot :=
  (State.raise_list c).2.2.1

/-! The start of an exchange (R147). -/

/-- Only the drive port moves at the start of an exchange. -/
theorem State.tryExchange_eq : s.tryExchange = s.setPort s.tryExchange.port := by
  rcases State.tryExchange_cases (s := s) with h | ⟨p, -, -, -, h⟩ <;> rw [h] <;> rfl

@[simp] theorem State.tryExchange_pending : s.tryExchange.pending = s.pending := by rw [State.tryExchange_eq]; rfl
@[simp] theorem State.tryExchange_pins : s.tryExchange.pins = s.pins := by rw [State.tryExchange_eq]; rfl
@[simp] theorem State.tryExchange_store : s.tryExchange.store = s.store := by rw [State.tryExchange_eq]; rfl
@[simp] theorem State.tryExchange_next : s.tryExchange.next = s.next := by rw [State.tryExchange_eq]; rfl
@[simp] theorem State.tryExchange_running : s.tryExchange.running = s.running := by rw [State.tryExchange_eq]; rfl
@[simp] theorem State.tryExchange_blend : s.tryExchange.blend = s.blend := by rw [State.tryExchange_eq]; rfl
@[simp] theorem State.tryExchange_stick : s.tryExchange.stick = s.stick := by rw [State.tryExchange_eq]; rfl
@[simp] theorem State.tryExchange_peers : s.tryExchange.peers = s.peers := by rw [State.tryExchange_eq]; rfl
@[simp] theorem State.tryExchange_trigger : s.tryExchange.trigger = s.trigger := by rw [State.tryExchange_eq]; rfl
@[simp] theorem State.tryExchange_mark : s.tryExchange.mark = s.mark := by rw [State.tryExchange_eq]; rfl
@[simp] theorem State.tryExchange_halt : s.tryExchange.halt = s.halt := by rw [State.tryExchange_eq]; rfl
@[simp] theorem State.tryExchange_link : s.tryExchange.link = s.link := by rw [State.tryExchange_eq]; rfl
@[simp] theorem State.tryExchange_start : s.tryExchange.start = s.start := by rw [State.tryExchange_eq]; rfl

/-- An exchange starts where a record waits, none is in flight and the drive is ready. -/
theorem State.tryExchange_starts {p : Setpoint} (h1 : s.port.pendingRecord = some p) (h2 : s.port.inFlight = none)
    (h3 : s.pins.drdy = true) :
    s.tryExchange = s.setPort { s.port with pendingRecord := none, inFlight := some p } := by
  simp [State.tryExchange, h1, h2, h3]

theorem State.tryExchange_waits
    (h : s.port.pendingRecord = none ∨ s.port.inFlight.isSome = true ∨ s.pins.drdy = false) : s.tryExchange = s := by
  unfold State.tryExchange
  split
  · rename_i p h1 h2
    rcases h with h | h | h <;> simp_all
  · rfl

/-- Nothing of the drive port but the two records moves. -/
theorem State.tryExchange_port :
    s.tryExchange.port = { s.port with pendingRecord := s.tryExchange.port.pendingRecord,
                                       inFlight := s.tryExchange.port.inFlight } := by
  rcases State.tryExchange_cases (s := s) with h | ⟨p, -, -, -, h⟩
  · rw [h]
  · rw [h]
    rfl

/-! A missed exchange (R149). -/

/-- The port after a missed exchange. -/
@[simp] theorem State.missExchange_port :
    s.missExchange.port = { s.port with lastExchange := .missed, missRun := satAdd 255 s.port.missRun 1 } := by
  simp [State.missExchange, State.countDriveMiss, State.mapCounters]

/-- What no missed exchange touches. -/
theorem State.missExchange_frame :
    s.missExchange.pending = s.pending ∧ s.missExchange.pins = s.pins ∧ s.missExchange.stick = s.stick ∧
    s.missExchange.peers = s.peers ∧ s.missExchange.mark = s.mark ∧ s.missExchange.start = s.start ∧
    s.missExchange.halt.epoch = s.halt.epoch ∧ s.missExchange.blend.x = s.blend.x ∧
    s.missExchange.blend.v = s.blend.v ∧ s.missExchange.blend.atLimit = s.blend.atLimit ∧
    s.missExchange.store.download = s.store.download ∧ s.missExchange.link.stateSlot = s.link.stateSlot ∧
    s.missExchange.link.replySlot = s.link.replySlot := by
  simp [State.missExchange, State.countDriveMiss, State.mapCounters]

/-! A handover (R146). -/

/-- The port with the handed record waiting, before a replaced one is judged and before an exchange starts. -/
def Port.handed (p : Port) (position velocity : Int) (enable halting : Bool) : Port :=
  { p with
    nextSequence := p.nextSequence + 1
    pendingRecord := some { sequence := p.nextSequence, position := position, velocity := velocity, enable := enable,
                            halting := halting } }

/-- A handover with nothing replaced changes the drive port only. -/
theorem State.handOver_fresh (position velocity : Int) (enable halting : Bool) (h : s.port.pendingRecord = none) :
    s.handOver position velocity enable halting =
      (s.setPort (s.port.handed position velocity enable halting)).tryExchange := by
  simp [State.handOver, h, Port.handed]

/-- A handover that replaces a waiting record is a missed exchange. -/
theorem State.handOver_replaces (position velocity : Int) (enable halting : Bool)
    (h : s.port.pendingRecord.isSome = true) :
    s.handOver position velocity enable halting =
      (s.setPort (s.port.handed position velocity enable halting)).missExchange.tryExchange := by
  simp [State.handOver, h, Port.handed]

/-- What no handover touches. -/
theorem State.handOver_frame (position velocity : Int) (enable halting : Bool) :
    let t := s.handOver position velocity enable halting
    t.pending = s.pending ∧ t.pins = s.pins ∧ t.stick = s.stick ∧ t.peers = s.peers ∧ t.mark = s.mark ∧
    t.start = s.start ∧ t.halt.epoch = s.halt.epoch ∧ t.blend.x = s.blend.x ∧ t.blend.v = s.blend.v ∧
    t.blend.atLimit = s.blend.atLimit ∧ t.store.download = s.store.download ∧ t.link.stateSlot = s.link.stateSlot ∧
    t.link.replySlot = s.link.replySlot := by
  dsimp only
  cases h : s.port.pendingRecord with
  | none =>
    rw [State.handOver_fresh _ _ _ _ h]
    simp
  | some p =>
    rw [State.handOver_replaces _ _ _ _ (by rw [h]; rfl)]
    obtain ⟨h1, h2, h3, h4, h5, h6, h7, h8, h9, h10, h11, h12, h13⟩ :=
      State.missExchange_frame (s := s.setPort (s.port.handed position velocity enable halting))
    simp only [State.tryExchange_pending, State.tryExchange_pins, State.tryExchange_stick, State.tryExchange_peers,
      State.tryExchange_mark, State.tryExchange_start, State.tryExchange_halt, State.tryExchange_blend,
      State.tryExchange_store, State.tryExchange_link]
    exact ⟨h1, h2, h3, h4, h5, h6, h7, h8, h9, h10, h11, h12, h13⟩

/-- The handed record waits or is in flight, under the sequence that was next. -/
theorem State.handOver_record (position velocity : Int) (enable halting : Bool) :
    let t := s.handOver position velocity enable halting
    let r : Setpoint := { sequence := s.port.nextSequence, position := position, velocity := velocity, enable := enable,
                          halting := halting }
    (t.port.pendingRecord = some r ∨ t.port.inFlight = some r) ∧ t.port.nextSequence = s.port.nextSequence + 1 := by
  dsimp only
  have key : ∀ u : State, u.port.pendingRecord = (s.port.handed position velocity enable halting).pendingRecord →
      u.port.nextSequence = s.port.nextSequence + 1 →
      (u.tryExchange.port.pendingRecord = (s.port.handed position velocity enable halting).pendingRecord ∨
        u.tryExchange.port.inFlight = (s.port.handed position velocity enable halting).pendingRecord) ∧
      u.tryExchange.port.nextSequence = s.port.nextSequence + 1 := by
    intro u hu hn
    rcases State.tryExchange_cases (s := u) with h | ⟨p, hp, -, -, h⟩ <;> rw [h]
    · exact ⟨.inl hu, hn⟩
    · exact ⟨.inr (hp ▸ hu), hn⟩
  cases h : s.port.pendingRecord with
  | none =>
    rw [State.handOver_fresh _ _ _ _ h]
    exact key _ rfl rfl
  | some p =>
    rw [State.handOver_replaces _ _ _ _ (by rw [h]; rfl)]
    exact key _ (by rw [State.missExchange_port]; rfl) (by rw [State.missExchange_port]; rfl)

/-- Outside RUN a handover moves the drive port, the latched causes and DRIVE_MISS only. -/
theorem State.handOver_outside (position velocity : Int) (enable halting : Bool) (h : s.halt.station ≠ .run) :
    let t := s.handOver position velocity enable halting
    t = ((s.setPort t.port).setHalt { s.halt with causes := t.halt.causes }).setLink
      { s.link with counters := t.link.counters } := by
  dsimp only
  cases hp : s.port.pendingRecord with
  | none =>
    rw [State.handOver_fresh _ _ _ _ hp, State.tryExchange_eq]
    rfl
  | some p =>
    rw [State.handOver_replaces _ _ _ _ (by rw [hp]; rfl), State.tryExchange_eq, State.missExchange,
      State.raise_outside _ (by exact h)]
    rfl

/-- A handover that raises no DRIVE_LOST moves the drive port and DRIVE_MISS only. -/
theorem State.handOver_quiet (position velocity : Int) (enable halting : Bool) (h : s.handsOverQuietly) :
    let t := s.handOver position velocity enable halting
    t = (s.setPort t.port).setLink { s.link with counters := t.link.counters } := by
  dsimp only
  cases hp : s.port.pendingRecord with
  | none =>
    rw [State.handOver_fresh _ _ _ _ hp, State.tryExchange_eq]
    rfl
  | some p =>
    have hm : satAdd 255 (s.setPort (s.port.handed position velocity enable halting)).port.missRun 1 ≠ 3 := by
      have : s.port.missRun ≠ 2 := h.resolve_left (by rw [hp]; nofun)
      show satAdd 255 s.port.missRun 1 ≠ 3
      unfold satAdd
      omega
    rw [State.handOver_replaces _ _ _ _ (by rw [hp]; rfl), State.tryExchange_eq, State.missExchange_quiet hm]
    rfl

end Sys2Proof.Machine
end

