-- ==== Sys2Proof/Laws/Expiry.lean ====
section
/-! SUPPORT. What one expiry of the control period timer leaves in each block, part by part (R43, R56, R76, R77, R88, R101,
R108, R10, R13, R33, R45, R134, R146). -/

namespace Sys2Proof.Machine

variable {s : State}

/-! The ageing. -/

/-- A download's work at an expiry touches the store and LOAD_LAPSE only. -/
theorem State.downloadExpiry_eq :
    s.downloadExpiry = (s.setStore s.downloadExpiry.store).setLink s.downloadExpiry.link := by
  unfold State.downloadExpiry
  split
  · rfl
  · split <;> rfl

/-- The outbound list and the error window stand through a download's work. -/
theorem State.downloadExpiry_link : s.downloadExpiry.link = { s.link with counters := s.downloadExpiry.link.counters } := by
  unfold State.downloadExpiry
  split
  · rfl
  · split <;> rfl

theorem State.ageExpiry_eq :
    s.ageExpiry = (((s.setStick s.stick.age).setPeers s.ageExpiry.peers).setStore s.ageExpiry.store).setLink
      s.ageExpiry.link := by
  unfold State.ageExpiry
  conv_lhs => rw [State.downloadExpiry_eq]
  conv_rhs => rw [State.downloadExpiry_eq]
  rfl

@[simp] theorem State.ageExpiry_pending : s.ageExpiry.pending = s.pending := by rw [State.ageExpiry_eq]; rfl
@[simp] theorem State.ageExpiry_pins : s.ageExpiry.pins = s.pins := by rw [State.ageExpiry_eq]; rfl
@[simp] theorem State.ageExpiry_next : s.ageExpiry.next = s.next := by rw [State.ageExpiry_eq]; rfl
@[simp] theorem State.ageExpiry_running : s.ageExpiry.running = s.running := by rw [State.ageExpiry_eq]; rfl
@[simp] theorem State.ageExpiry_blend : s.ageExpiry.blend = s.blend := by rw [State.ageExpiry_eq]; rfl
@[simp] theorem State.ageExpiry_stick : s.ageExpiry.stick = s.stick.age := by rw [State.ageExpiry_eq]; rfl
@[simp] theorem State.ageExpiry_trigger : s.ageExpiry.trigger = s.trigger := by rw [State.ageExpiry_eq]; rfl
@[simp] theorem State.ageExpiry_mark : s.ageExpiry.mark = s.mark := by rw [State.ageExpiry_eq]; rfl
@[simp] theorem State.ageExpiry_halt : s.ageExpiry.halt = s.halt := by rw [State.ageExpiry_eq]; rfl
@[simp] theorem State.ageExpiry_port : s.ageExpiry.port = s.port := by rw [State.ageExpiry_eq]; rfl
@[simp] theorem State.ageExpiry_start : s.ageExpiry.start = s.start := by rw [State.ageExpiry_eq]; rfl
@[simp] theorem State.ageExpiry_own : s.ageExpiry.own = s.own := by simp [State.own]
@[simp] theorem State.ageExpiry_record : s.ageExpiry.record = s.record := by simp [State.record]
@[simp] theorem State.ageExpiry_frozen : s.ageExpiry.frozen = s.frozen := by simp [State.frozen]

theorem State.ageExpiry_peers : s.ageExpiry.peers = s.peersExpiry.peers := by
  unfold State.ageExpiry
  rw [State.downloadExpiry_eq]
  rfl

theorem State.ageExpiry_store : s.ageExpiry.store = s.downloadExpiry.store := by
  unfold State.ageExpiry State.downloadExpiry
  change (match s.store.download with
    | none => _
    | some d => _ : State).store = _
  cases s.store.download with
  | none => rfl
  | some d => dsimp only; split <;> rfl

@[simp] theorem State.ageExpiry_stateSlot : s.ageExpiry.link.stateSlot = s.link.stateSlot := by
  unfold State.ageExpiry
  rw [State.downloadExpiry_link]
  rfl

@[simp] theorem State.ageExpiry_replySlot : s.ageExpiry.link.replySlot = s.link.replySlot := by
  unfold State.ageExpiry
  rw [State.downloadExpiry_link]
  rfl

/-! The readers of the setpoint. -/

/-- A recording's work at an expiry touches the store and CUE_MISS only. -/
theorem State.recordExpiry_eq :
    s.recordExpiry = (s.setStore s.recordExpiry.store).setLink s.recordExpiry.link := by
  unfold State.recordExpiry
  split
  · rfl
  · dsimp only
    split
    · exact State.closeRecording_frame _ _
    · split <;> rfl

theorem State.recordExpiry_link : s.recordExpiry.link = { s.link with counters := s.recordExpiry.link.counters } := by
  unfold State.recordExpiry
  split
  · rfl
  · dsimp only
    split
    · unfold State.closeRecording
      split <;> rfl
    · split <;> rfl

/-- Reading the setpoint moves the store, the counters, the two cue slots and the take target only. -/
theorem State.readSetpoint_frame :
    s.readSetpoint.pending = s.pending ∧ s.readSetpoint.pins = s.pins ∧ s.readSetpoint.stick = s.stick ∧
    s.readSetpoint.peers = s.peers ∧ s.readSetpoint.trigger = s.trigger ∧ s.readSetpoint.mark = s.mark ∧
    s.readSetpoint.halt = s.halt ∧ s.readSetpoint.port = s.port ∧ s.readSetpoint.start = s.start ∧
    s.readSetpoint.blend.x = s.blend.x ∧ s.readSetpoint.blend.v = s.blend.v ∧
    s.readSetpoint.blend.atLimit = s.blend.atLimit ∧ s.readSetpoint.link.stateSlot = s.link.stateSlot ∧
    s.readSetpoint.link.replySlot = s.link.replySlot := by
  have h1 := State.recordExpiry_eq (s := s)
  have h2 := State.recordExpiry_link (s := s)
  have key : s.readSetpoint.pending = s.recordExpiry.pending ∧ s.readSetpoint.pins = s.recordExpiry.pins ∧
      s.readSetpoint.stick = s.recordExpiry.stick ∧ s.readSetpoint.peers = s.recordExpiry.peers ∧
      s.readSetpoint.trigger = s.recordExpiry.trigger ∧ s.readSetpoint.mark = s.recordExpiry.mark ∧
      s.readSetpoint.halt = s.recordExpiry.halt ∧ s.readSetpoint.port = s.recordExpiry.port ∧
      s.readSetpoint.start = s.recordExpiry.start ∧ s.readSetpoint.blend.x = s.recordExpiry.blend.x ∧
      s.readSetpoint.blend.v = s.recordExpiry.blend.v ∧ s.readSetpoint.blend.atLimit = s.recordExpiry.blend.atLimit ∧
      s.readSetpoint.link = s.recordExpiry.link := by
    simp only [State.readSetpoint, State.seekTest, State.passTest, State.endPass, State.endCue]
    split
    · split <;> exact ⟨rfl, rfl, rfl, rfl, rfl, rfl, rfl, rfl, rfl, rfl, rfl, rfl, rfl⟩
    · split
      · split
        · exact ⟨rfl, rfl, rfl, rfl, rfl, rfl, rfl, rfl, rfl, rfl, rfl, rfl, rfl⟩
        · split <;> exact ⟨rfl, rfl, rfl, rfl, rfl, rfl, rfl, rfl, rfl, rfl, rfl, rfl, rfl⟩
      · exact ⟨rfl, rfl, rfl, rfl, rfl, rfl, rfl, rfl, rfl, rfl, rfl, rfl, rfl⟩
  obtain ⟨k1, k2, k3, k4, k5, k6, k7, k8, k9, k10, k11, k12, k13⟩ := key
  rw [h1] at k1 k2 k3 k4 k5 k6 k7 k8 k9 k10 k11 k12
  exact ⟨k1, k2, k3, k4, k5, k6, k7, k8, k9, k10, k11, k12, by rw [k13, h2], by rw [k13, h2]⟩

/-! The computation. -/

/-- The cue engine's work before the blend touches the RUNNING slot only. -/
theorem State.cueExpiry_eq : s.cueExpiry = s.setRunning s.cueExpiry.running := by
  unfold State.cueExpiry
  split <;> rfl

/-- The blend touches its own state and the RUNNING slot only. -/
theorem State.blendRun_eq (sup : Supply) :
    s.blendRun sup = (s.setRunning (s.blendRun sup).running).setBlend (s.blendRun sup).blend := by
  unfold State.blendRun
  split <;> rfl

theorem State.computeRun_eq (sup : Supply) :
    s.computeRun sup = (s.setRunning (s.computeRun sup).running).setBlend (s.computeRun sup).blend := by
  unfold State.computeRun
  rw [State.blendRun_eq, State.cueExpiry_eq]
  rfl

/-- What the computation of an expiry leaves in the blocks it does not own. -/
theorem State.computeExpiry_frame (sup : Supply) :
    (s.computeExpiry sup).pending = s.pending ∧ (s.computeExpiry sup).pins = s.pins ∧
    (s.computeExpiry sup).stick = s.stick ∧ (s.computeExpiry sup).peers = s.peers ∧
    (s.computeExpiry sup).trigger = s.trigger ∧ (s.computeExpiry sup).mark = s.mark ∧
    (s.computeExpiry sup).port = s.port ∧ (s.computeExpiry sup).start = s.start ∧
    (s.computeExpiry sup).halt.causes = s.halt.causes ∧ (s.computeExpiry sup).halt.epoch = s.halt.epoch ∧
    (s.computeExpiry sup).halt.record = s.halt.record ∧
    (s.computeExpiry sup).link.stateSlot = s.link.stateSlot ∧
    (s.computeExpiry sup).link.replySlot = s.link.replySlot := by
  unfold State.computeExpiry
  split
  · obtain ⟨h1, h2, h3, h4, h5, h6, h7, h8, h9, -, -, -, h13, h14⟩ := State.readSetpoint_frame (s := s.computeRun sup)
    rw [State.computeRun_eq] at h1 h2 h3 h4 h5 h6 h7 h8 h9 h13 h14 ⊢
    exact ⟨h1, h2, h3, h4, h5, h6, h8, h9, by rw [h7]; rfl, by rw [h7]; rfl, by rw [h7]; rfl, h13, h14⟩
  · unfold State.computeHalting
    dsimp only
    split <;> exact ⟨rfl, rfl, rfl, rfl, rfl, rfl, rfl, rfl, rfl, rfl, rfl, rfl, rfl⟩
  · exact ⟨rfl, rfl, rfl, rfl, rfl, rfl, rfl, rfl, rfl, rfl, rfl, rfl, rfl⟩
  · exact ⟨rfl, rfl, rfl, rfl, rfl, rfl, rfl, rfl, rfl, rfl, rfl, rfl, rfl⟩

/-! The expiry whole. -/

/-- The state an expiry has computed, before its report and its handover. -/
def State.computed (s : State) : State := s.ageExpiry.computeExpiry s.stickSupply

theorem State.expiry_eq :
    s.expiry = ((s.computed.lostReport s.reportDue).newPeriod).handSetpoint := rfl

/-- The handover of an expiry changes the drive port alone where no record waits. -/
theorem State.expiry_fresh (h : s.port.pendingRecord = none) :
    s.expiry = (s.computed.lostReport s.reportDue).setPort s.expiry.port := by
  have hp : ((s.computed.lostReport s.reportDue).newPeriod).port.pendingRecord = none := by
    have := (State.computeExpiry_frame (s := s.ageExpiry) s.stickSupply).2.2.2.2.2.2.1
    unfold State.lostReport
    split <;> simpa [State.newPeriod, State.placeState, State.computed, this] using h
  have key : s.expiry = ((s.computed.lostReport s.reportDue).newPeriod).setPort s.expiry.port := by
    conv_lhs => rw [State.expiry_eq, State.handSetpoint, State.handOver_fresh _ _ _ _ hp, State.tryExchange_eq]
    conv_rhs => rw [State.expiry_eq, State.handSetpoint, State.handOver_fresh _ _ _ _ hp]
    rfl
  exact key

/-- What an expiry leaves in each block, through its computation. -/
theorem State.expiry_frame :
    s.expiry.pending = s.pending ∧ s.expiry.pins = s.pins ∧ s.expiry.stick = s.stick.age ∧
    s.expiry.peers = s.peersExpiry.peers ∧ s.expiry.mark = s.mark ∧ s.expiry.start = s.start ∧
    s.expiry.halt.epoch = s.halt.epoch ∧ s.expiry.blend.x = s.computed.blend.x ∧
    s.expiry.blend.v = s.computed.blend.v ∧ s.expiry.blend.atLimit = s.computed.blend.atLimit ∧
    s.expiry.store.download = s.computed.store.download ∧
    s.expiry.link.stateSlot = (s.computed.lostReport s.reportDue).link.stateSlot ∧
    s.expiry.link.replySlot = s.link.replySlot := by
  obtain ⟨h1, h2, h3, h4, h5, h6, h7, h8, h9, h10, h11, h12, h13⟩ :=
    State.handOver_frame (s := (s.computed.lostReport s.reportDue).newPeriod)
      (roundAuCapped ((s.computed.lostReport s.reportDue).newPeriod).blend.x)
      ((s.computed.lostReport s.reportDue).newPeriod).blend.v true
      (((s.computed.lostReport s.reportDue).newPeriod).halt.station = .halting ||
        ((s.computed.lostReport s.reportDue).newPeriod).halt.station = .halted)
  obtain ⟨k1, k2, k3, k4, -, k6, -, k8, -, k10, -, k12, k13⟩ :=
    State.computeExpiry_frame (s := s.ageExpiry) s.stickSupply
  rw [State.expiry_eq, State.handSetpoint, h1, h2, h3, h4, h5, h6, h7, h8, h9, h10, h11, h12, h13]
  have e : (s.computed.lostReport s.reportDue) =
      s.computed.setLink (s.computed.lostReport s.reportDue).link := by
    unfold State.lostReport
    split <;> rfl
  have er : (s.computed.lostReport s.reportDue).link.replySlot = s.computed.link.replySlot := by
    unfold State.lostReport
    split <;> rfl
  refine ⟨?_, ?_, ?_, ?_, ?_, ?_, ?_, ?_, ?_, ?_, ?_, rfl, ?_⟩
  · rw [e]; exact k1.trans State.ageExpiry_pending
  · rw [e]; exact k2.trans State.ageExpiry_pins
  · rw [e]; exact k3.trans State.ageExpiry_stick
  · rw [e]; exact k4.trans State.ageExpiry_peers
  · rw [e]; exact k6.trans State.ageExpiry_mark
  · rw [e]; exact k8.trans State.ageExpiry_start
  · rw [e]; exact k10.trans (congrArg Halt.epoch State.ageExpiry_halt)
  · rw [e]; rfl
  · rw [e]; rfl
  · rw [e]; rfl
  · rw [e]; rfl
  · exact er.trans (k13.trans State.ageExpiry_replySlot)

/-- The setpoint record of an expiry waits or is in flight, under the sequence that was next. -/
theorem State.expiry_record :
    (s.expiry.port.pendingRecord = some
        { sequence := s.port.nextSequence, position := roundAuCapped s.computed.blend.x, velocity := s.computed.blend.v,
          enable := true,
          halting := s.computed.halt.station = .halting || s.computed.halt.station = .halted } ∨
      s.expiry.port.inFlight = some
        { sequence := s.port.nextSequence, position := roundAuCapped s.computed.blend.x, velocity := s.computed.blend.v,
          enable := true,
          halting := s.computed.halt.station = .halting || s.computed.halt.station = .halted }) ∧
    s.expiry.port.nextSequence = s.port.nextSequence + 1 := by
  have e : (s.computed.lostReport s.reportDue) =
      s.computed.setLink (s.computed.lostReport s.reportDue).link := by
    unfold State.lostReport
    split <;> rfl
  have hp : s.computed.port = s.port :=
    (State.computeExpiry_frame (s := s.ageExpiry) s.stickSupply).2.2.2.2.2.2.1.trans State.ageExpiry_port
  have := State.handOver_record (s := (s.computed.lostReport s.reportDue).newPeriod)
      (roundAuCapped ((s.computed.lostReport s.reportDue).newPeriod).blend.x)
      ((s.computed.lostReport s.reportDue).newPeriod).blend.v true
      (((s.computed.lostReport s.reportDue).newPeriod).halt.station = .halting ||
        ((s.computed.lostReport s.reportDue).newPeriod).halt.station = .halted)
  have hn : ((s.computed.lostReport s.reportDue).newPeriod).port.nextSequence = s.port.nextSequence := by
    rw [e]
    change s.computed.port.nextSequence = _
    rw [hp]
  rw [hn] at this
  rw [State.expiry_eq, State.handSetpoint]
  rw [e] at this ⊢
  exact this

/-- In HALTING and HALTED nothing but the port, the latched causes and the link moves after the computation. -/
theorem State.expiry_outside (h : s.computed.halt.station ≠ .run) :
    s.expiry.store = s.computed.store ∧ s.expiry.next = s.computed.next ∧ s.expiry.running = s.computed.running ∧
    s.expiry.blend = s.computed.blend ∧ s.expiry.trigger = s.computed.trigger ∧
    s.expiry.halt = { s.computed.halt with causes := s.expiry.halt.causes } := by
  have e : ((s.computed.lostReport s.reportDue).newPeriod).store = s.computed.store ∧
      ((s.computed.lostReport s.reportDue).newPeriod).next = s.computed.next ∧
      ((s.computed.lostReport s.reportDue).newPeriod).running = s.computed.running ∧
      ((s.computed.lostReport s.reportDue).newPeriod).blend = s.computed.blend ∧
      ((s.computed.lostReport s.reportDue).newPeriod).trigger = s.computed.trigger ∧
      ((s.computed.lostReport s.reportDue).newPeriod).halt = s.computed.halt := by
    unfold State.lostReport
    split <;> exact ⟨rfl, rfl, rfl, rfl, rfl, rfl⟩
  rw [State.expiry_eq]
  generalize (s.computed.lostReport s.reportDue).newPeriod = u at e
  obtain ⟨e1, e2, e3, e4, e5, e6⟩ := e
  unfold State.handSetpoint
  have key := State.handOver_outside (s := u) (roundAuCapped u.blend.x) u.blend.v true
    (u.halt.station = .halting || u.halt.station = .halted) (by rw [e6]; exact h)
  generalize u.handOver (roundAuCapped u.blend.x) u.blend.v true
    (u.halt.station = .halting || u.halt.station = .halted) = t at key
  rw [← e1, ← e2, ← e3, ← e4, ← e5, ← e6]
  refine ⟨?_, ?_, ?_, ?_, ?_, ?_⟩ <;> (rw [key]; rfl)

/-- An expiry whose handover raises no DRIVE_LOST leaves in every other block what its computation left there. -/
theorem State.expiry_quiet (h : s.handsOverQuietly) :
    s.expiry.store = s.computed.store ∧ s.expiry.next = s.computed.next ∧ s.expiry.running = s.computed.running ∧
    s.expiry.blend = s.computed.blend ∧ s.expiry.trigger = s.computed.trigger ∧ s.expiry.halt = s.computed.halt ∧
    s.expiry.start = s.computed.start ∧ s.expiry.link.cueList = s.computed.link.cueList := by
  have hp : s.computed.port = s.port :=
    (State.computeExpiry_frame (s := s.ageExpiry) s.stickSupply).2.2.2.2.2.2.1.trans State.ageExpiry_port
  have e : ((s.computed.lostReport s.reportDue).newPeriod).store = s.computed.store ∧
      ((s.computed.lostReport s.reportDue).newPeriod).next = s.computed.next ∧
      ((s.computed.lostReport s.reportDue).newPeriod).running = s.computed.running ∧
      ((s.computed.lostReport s.reportDue).newPeriod).blend = s.computed.blend ∧
      ((s.computed.lostReport s.reportDue).newPeriod).trigger = s.computed.trigger ∧
      ((s.computed.lostReport s.reportDue).newPeriod).halt = s.computed.halt ∧
      ((s.computed.lostReport s.reportDue).newPeriod).start = s.computed.start ∧
      ((s.computed.lostReport s.reportDue).newPeriod).link.cueList = s.computed.link.cueList ∧
      ((s.computed.lostReport s.reportDue).newPeriod).port =
        { s.computed.port with validSinceExpiry := false } := by
    unfold State.lostReport
    split <;> exact ⟨rfl, rfl, rfl, rfl, rfl, rfl, rfl, rfl, rfl⟩
  rw [State.expiry_eq]
  generalize (s.computed.lostReport s.reportDue).newPeriod = u at e
  obtain ⟨e1, e2, e3, e4, e5, e6, e7, e8, e9⟩ := e
  have hq : u.handsOverQuietly := by
    unfold State.handsOverQuietly at h ⊢
    rw [e9, hp]
    exact h
  rw [State.handSetpoint, State.handOver_quiet _ _ _ _ hq, ← e1, ← e2, ← e3, ← e4, ← e5, ← e6, ← e7, ← e8]
  exact ⟨rfl, rfl, rfl, rfl, rfl, rfl, rfl, rfl⟩

/-- In RUN the computation is the stored setpoint and then its readers. -/
theorem State.computed_run (h : s.halt.station = .run) : s.computed = s.storedSetpoint.readSetpoint := by
  unfold State.computed State.computeExpiry State.storedSetpoint
  rw [State.ageExpiry_halt, h]

/-! What the computation leaves to the handover. -/

theorem State.computed_port : s.computed.port = s.port :=
  (State.computeExpiry_frame (s := s.ageExpiry) s.stickSupply).2.2.2.2.2.2.1.trans State.ageExpiry_port

/-- A download's work counts no missed exchange. -/
theorem State.downloadExpiry_driveMiss : s.downloadExpiry.link.counters.driveMiss = s.link.counters.driveMiss := by
  unfold State.downloadExpiry
  split
  · rfl
  · split <;> rfl

/-- A recording's work counts no missed exchange. -/
theorem State.recordExpiry_driveMiss : s.recordExpiry.link.counters.driveMiss = s.link.counters.driveMiss := by
  unfold State.recordExpiry
  split
  · rfl
  · dsimp only
    split
    · unfold State.closeRecording
      split <;> rfl
    · split <;> rfl

/-- After the recording's work the readers of the setpoint leave the link as it stands. -/
theorem State.readSetpoint_link : s.readSetpoint.link = s.recordExpiry.link := by
  simp only [State.readSetpoint, State.seekTest, State.passTest, State.endPass, State.endCue]
  repeat' split
  all_goals rfl

/-- No computation of an expiry places a HALT frame or counts a missed exchange. -/
theorem State.computed_link :
    s.computed.link.haltSlot = s.link.haltSlot ∧ s.computed.link.counters.driveMiss = s.link.counters.driveMiss := by
  have ha : s.ageExpiry.link.haltSlot = s.link.haltSlot ∧
      s.ageExpiry.link.counters.driveMiss = s.link.counters.driveMiss := by
    unfold State.ageExpiry
    exact ⟨by rw [State.downloadExpiry_link]; rfl, by rw [State.downloadExpiry_driveMiss]; rfl⟩
  rw [← ha.1, ← ha.2]
  unfold State.computed State.computeExpiry
  split
  · rw [State.readSetpoint_link, State.recordExpiry_driveMiss, State.recordExpiry_link, State.computeRun_eq]
    exact ⟨rfl, rfl⟩
  · unfold State.computeHalting
    dsimp only
    split <;> exact ⟨rfl, rfl⟩
  · exact ⟨rfl, rfl⟩
  · exact ⟨rfl, rfl⟩

/-- The computation changes the station state from HALTING to HALTED only (R133). -/
theorem State.computed_station :
    s.computed.halt.station = s.halt.station ∨ s.halt.station = .halting ∧ s.computed.halt.station = .halted := by
  unfold State.computed State.computeExpiry
  rw [State.ageExpiry_halt]
  split
  · rename_i h
    left
    rw [State.readSetpoint_frame.2.2.2.2.2.2.1, State.computeRun_eq]
    exact congrArg Halt.station State.ageExpiry_halt
  · rename_i h
    unfold State.computeHalting
    dsimp only
    split
    · exact .inr ⟨h, rfl⟩
    · exact .inl (congrArg Halt.station State.ageExpiry_halt)
  · exact .inl (congrArg Halt.station State.ageExpiry_halt)
  · exact .inl (congrArg Halt.station State.ageExpiry_halt)

/-- In RUN the stored setpoint is a move of the limit stage within the soft range of the record (R56, R68 to R73). -/
theorem State.computed_blend_run (h : s.halt.station = .run) :
    ∃ (l : Limits) (target : Int), l.lo = fu s.record.lo ∧ l.hi = fu s.record.hi ∧ l.amax = s.record.amax ∧
      s.computed.blend.x = (limitStage l s.blend target).x ∧ s.computed.blend.v = (limitStage l s.blend target).v ∧
      s.computed.blend.atLimit = (limitStage l s.blend target).atLimit := by
  have hb : s.ageExpiry.cueExpiry.blend = s.blend := by rw [State.cueExpiry_eq]; simp
  have hr : s.ageExpiry.cueExpiry.record = s.record := by rw [State.cueExpiry_eq]; simp
  have move : ∃ target, (s.ageExpiry.computeRun s.stickSupply).blend.x =
        (limitStage s.ageExpiry.cueExpiry.limits s.ageExpiry.cueExpiry.blend target).x ∧
      (s.ageExpiry.computeRun s.stickSupply).blend.v =
        (limitStage s.ageExpiry.cueExpiry.limits s.ageExpiry.cueExpiry.blend target).v ∧
      (s.ageExpiry.computeRun s.stickSupply).blend.atLimit =
        (limitStage s.ageExpiry.cueExpiry.limits s.ageExpiry.cueExpiry.blend target).atLimit := by
    unfold State.computeRun State.blendRun
    split <;> exact ⟨_, rfl, rfl, rfl⟩
  obtain ⟨target, hx, hv, ha⟩ := move
  obtain ⟨-, -, -, -, -, -, -, -, -, kx, kv, ka, -⟩ :=
    State.readSetpoint_frame (s := s.ageExpiry.computeRun s.stickSupply)
  rw [hb] at hx hv ha
  refine ⟨s.ageExpiry.cueExpiry.limits, target, by simp [State.limits, hr], by simp [State.limits, hr],
    by simp [State.limits, hr], ?_⟩
  rw [State.computed_run h]
  exact ⟨kx.trans hx, kv.trans hv, ka.trans ha⟩

/-- In HALTING the stored setpoint is the decelerated move within the soft range (R76). -/
theorem State.computed_blend_halting (h : s.halt.station = .halting) :
    s.computed.blend =
      travelClamp (fu s.record.lo) (fu s.record.hi) s.blend (decelerated s.record.aHalt s.blend.v) := by
  unfold State.computed State.computeExpiry State.computeHalting
  rw [State.ageExpiry_halt, h]
  dsimp only
  split <;> simp [State.blendHalting]

/-- In HALTED the setpoint holds (R77). -/
theorem State.computed_blend_halted (h : s.halt.station = .halted) :
    s.computed.blend = { s.blend with v := 0, atLimit := false } := by
  unfold State.computed State.computeExpiry State.blendHalted
  rw [State.ageExpiry_halt, h]
  simp

end Sys2Proof.Machine
end

