-- ==== Sys2Proof/Laws/Layout.lean ====
section
/-! SUPPORT. The codes and byte layouts of R187: each code is read back as what it stands for, a byte that is no code reads as
nothing, values of several bytes are read back at their offsets, and the lengths of the payloads. -/

namespace Sys2Proof.Machine

/-! Codes are read back. -/

@[simp] theorem stationOf_stationByte (n : Station) : stationOf (stationByte n) = some n := by revert n; decide
@[simp] theorem presetOf_presetByte (p : Preset) : presetOf (presetByte p) = some p := by revert p; decide
@[simp] theorem stationFieldOf_stationField (o : Option Station) : stationFieldOf (stationField o) = some o := by
  revert o; decide
@[simp] theorem reportedKindOf_code (k : Option AxisKind) : reportedKindOf (axisKindCode k) = some k := by
  rcases k with _ | k <;> first | rfl | (cases k <;> rfl)
@[simp] theorem stationStateOf_code (v : StationState) : stationStateOf (stationStateCode v) = some v := by cases v <;> rfl
@[simp] theorem cueStateOf_code (v : CueState) : cueStateOf (cueStateCode v) = some v := by cases v <;> rfl
@[simp] theorem nextStateOf_code (v : NextState) : nextStateOf (nextStateCode v) = some v := by cases v <;> rfl
@[simp] theorem startConditionOf_code (v : StartCondition) : startConditionOf (startConditionCode v) = some v := by
  cases v <;> rfl
@[simp] theorem modeOf_code (v : Mode) : modeOf (modeCode v) = some v := by cases v <;> rfl
@[simp] theorem shapeOf_code (v : Shape) : shapeOf (shapeCode v) = some v := by cases v <;> rfl
@[simp] theorem senseOf_code (v : Sense) : senseOf (senseCode v) = some v := by cases v <;> rfl
@[simp] theorem switchOf_code (v : Bool) : switchOf (switchCode v) = some v := by cases v <;> rfl

/-! A byte is a code, or names nothing. -/

theorem stationByte_injective (n m : Station) (h : stationByte n = stationByte m) : n = m := by
  revert n m; decide

theorem presetByte_injective (p q : Preset) (h : presetByte p = presetByte q) : p = q := by
  have := congrArg presetOf h
  simpa using this

theorem station_cases (b : Byte) : (16 ≤ b.toNat ∧ stationOf b = none) ∨ ∃ n, b = stationByte n ∧ stationOf b = some n := by
  unfold stationOf
  split
  · rename_i h
    exact .inr ⟨⟨b.toNat, h⟩, by simp [stationByte], rfl⟩
  · exact .inl ⟨by omega, rfl⟩

theorem preset_cases (b : Byte) : (32 ≤ b.toNat ∧ presetOf b = none) ∨ ∃ p, b = presetByte p ∧ presetOf b = some p := by
  unfold presetOf
  split
  · rename_i h
    exact .inr ⟨⟨b.toNat, h⟩, by simp [presetByte], rfl⟩
  · exact .inl ⟨by omega, rfl⟩

theorem stationByte_lt (n : Station) : (stationByte n).toNat < 16 := by revert n; decide
theorem presetByte_lt (p : Preset) : (presetByte p).toNat < 32 := by revert p; decide

theorem startCondition_cases (b : Byte) : (2 ≤ b.toNat ∧ startConditionOf b = none) ∨ ∃ c, b = startConditionCode c := by
  by_cases h : 2 ≤ b.toNat
  · refine .inl ⟨h, ?_⟩
    revert h; revert b; decide
  · have : b = 0 ∨ b = 1 := by revert b; decide
    rcases this with rfl | rfl
    · exact .inr ⟨.waitGo, rfl⟩
    · exact .inr ⟨.follow, rfl⟩

theorem shapeOf_isSome (b : Byte) : (shapeOf b).isSome = true ↔ b.toNat < 3 := by revert b; decide
theorem modeOf_isSome (b : Byte) : (modeOf b).isSome = true ↔ b.toNat < 3 := by revert b; decide
theorem switchOf_isSome (b : Byte) : (switchOf b).isSome = true ↔ b.toNat < 2 := by revert b; decide
theorem senseOf_isSome (b : Byte) : (senseOf b).isSome = true ↔ b.toNat < 2 := by revert b; decide
theorem axisKindOf_isSome (b : Byte) : (axisKindOf b).isSome = true ↔ b.toNat < 8 := by revert b; decide

/-! Values of several bytes. -/

theorem be16_join (w : Half) : (w.extractLsb' 8 8 ++ w.extractLsb' 0 8 : BitVec 16) = w :=
  BitVec.extractLsb'_append_extractLsb'_eq_extractLsb' (by decide) |>.trans (by simp)

theorem be24_join (w : Triple) : (w.extractLsb' 16 8 ++ w.extractLsb' 8 8 ++ w.extractLsb' 0 8 : BitVec 24) = w := by
  rw [BitVec.extractLsb'_append_extractLsb'_eq_extractLsb' (by decide),
    BitVec.extractLsb'_append_extractLsb'_eq_extractLsb' (by decide)]
  simp

theorem be32_join (w : Word) :
    (w.extractLsb' 24 8 ++ w.extractLsb' 16 8 ++ w.extractLsb' 8 8 ++ w.extractLsb' 0 8 : BitVec 32) = w := by
  rw [BitVec.extractLsb'_append_extractLsb'_eq_extractLsb' (by decide),
    BitVec.extractLsb'_append_extractLsb'_eq_extractLsb' (by decide),
    BitVec.extractLsb'_append_extractLsb'_eq_extractLsb' (by decide)]
  simp

@[simp] theorem be16_length (w : Half) : (be16 w).length = 2 := rfl
@[simp] theorem be24_length (w : Triple) : (be24 w).length = 3 := rfl
@[simp] theorem be32_length (w : Word) : (be32 w).length = 4 := rfl
@[simp] theorem nat16_length (n : Nat) : (nat16 n).length = 2 := rfl
@[simp] theorem nat24_length (n : Nat) : (nat24 n).length = 3 := rfl
@[simp] theorem nat32_length (n : Nat) : (nat32 n).length = 4 := rfl
@[simp] theorem int32_length (x : Int) : (int32 x).length = 4 := rfl

/-! Lengths of the payloads (chapter 11). -/

@[simp] theorem reportBytes_length (r : Report) : (reportBytes r).length = 27 := rfl
@[simp] theorem modeBlockBytes_length (m : ModeFields) : (modeBlockBytes m).length = 11 := rfl
@[simp] theorem keyframeBytes_length (k : Keyframe) : (keyframeBytes k).length = 8 := rfl
@[simp] theorem triggerBytes_length (t : Trigger) : (triggerBytes t).length = 11 := rfl
@[simp] theorem counterBytes_length (c : Counters) : (counterBytes c).length = 18 := rfl
@[simp] theorem setpointBytes_length (p : Setpoint) : (setpointBytes p).length = 10 := rfl

/-! Keys. -/

@[simp] theorem keySender_keyOf (cls : Fin 4) (n : Station) : keySender (keyOf cls n) = n := by
  revert cls n; decide

@[simp] theorem keyClass_keyOf (cls : Fin 4) (n : Station) : keyClass (keyOf cls n) = cls := by
  revert cls n; decide

end Sys2Proof.Machine
end

