-- ==== Sys2Proof/Laws/Limits.lean ====
section
/-! SUPPORT. One move of the limit stage (R69 to R73, R76): outside the soft range there is no move away from it, and from
inside the setpoint stays inside. -/

namespace Sys2Proof.Machine

/-- Nothing is allowed downwards from at or below the low end (R69, R71). -/
theorem Limits.allowedNeg_below (l : Limits) {x : Int} (h : x ≤ l.lo) : l.allowedNeg x = 0 := by
  have he : envelope l.amax (x - l.lo) = 0 := by
    unfold envelope
    exact if_pos (by omega)
  unfold Limits.allowedNeg
  simp only [he, Nat.min_zero]
  split
  · rfl
  · split
    · split <;> simp
    · rfl

/-- Below the low end a velocity that is not downwards stays so (R71, R72). -/
theorem Limits.velocity_below (l : Limits) {x v : Int} (target : Int) (h : x ≤ l.lo) (hv : 0 ≤ v) :
    0 ≤ l.velocity x v target := by
  unfold Limits.velocity clamp
  rw [l.allowedNeg_below h]
  omega

/-- A deceleration keeps the sign of the velocity (R76). -/
theorem decelerated_nonneg (aHalt : Nat) {v : Int} (h : 0 ≤ v) : 0 ≤ decelerated aHalt v := by
  unfold decelerated
  split
  · omega
  · split <;> omega

/-- From inside the soft range the travel clamp stays inside (R73). -/
theorem travelClamp_inside {lo hi : Int} {b : Blend} (v : Int) (h1 : lo ≤ b.x) (h2 : b.x ≤ hi) :
    lo ≤ (travelClamp lo hi b v).x ∧ (travelClamp lo hi b v).x ≤ hi := by
  unfold travelClamp
  split
  · exact ⟨by dsimp only; omega, by dsimp only; omega⟩
  · split <;> exact ⟨by dsimp only; omega, by dsimp only; omega⟩

/-- From the low end upwards the travel clamp does not pass below it (R73). -/
theorem travelClamp_floor {lo hi : Int} {b : Blend} (v : Int) (h : lo ≤ b.x) : lo ≤ (travelClamp lo hi b v).x := by
  unfold travelClamp
  split
  · dsimp only; omega
  · split <;> (dsimp only; omega)

/-- From below the low end, with no velocity downwards, the travel clamp moves upwards only (R73). -/
theorem travelClamp_upwards {lo hi v : Int} {b : Blend} (hv : 0 ≤ v) (h : b.x < lo) :
    b.x ≤ (travelClamp lo hi b v).x ∧ 0 ≤ (travelClamp lo hi b v).v := by
  unfold travelClamp
  split
  · exact ⟨by dsimp only; omega, by dsimp only; omega⟩
  · split
    · omega
    · exact ⟨by dsimp only; omega, hv⟩

end Sys2Proof.Machine
end

