-- ==== Sys2Proof/Laws/Pool.lean ====
section
/-! SUPPORT. The keyframe pool (R1, R2): every operation keeps the canonical form, and what a read finds after each. -/

namespace Sys2Proof.Machine

/-- The canonical form, as a proposition. -/
theorem Pool.wf_iff (p : Pool) :
    p.wf = true ↔ (p.Pairwise fun a b => a.1 < b.1) ∧ ∀ c ∈ p, c.2 ≠ Keyframe.blank := by
  have hr : ∀ q : Pool, q.rising = true ↔ q.Pairwise fun a b => a.1 < b.1 := by
    intro q
    induction q with
    | nil => simp [Pool.rising]
    | cons a q ih =>
      cases q with
      | nil => simp [Pool.rising]
      | cons b q =>
        simp only [Pool.rising, Bool.and_eq_true, decide_eq_true_eq, ih, List.pairwise_cons (a := a)]
        constructor
        · rintro ⟨h, hp⟩
          refine ⟨fun c hc => ?_, hp⟩
          rcases List.mem_cons.mp hc with rfl | hc
          · exact h
          · exact h.trans ((List.pairwise_cons.mp hp).1 c hc)
        · rintro ⟨h, hp⟩
          exact ⟨h b (by simp), hp⟩
  simp [Pool.wf, hr]

theorem Pool.wf_nil : Pool.wf [] = true := rfl

/-- Dropping entries keeps the canonical form. -/
theorem Pool.wf_filter {p : Pool} (f : Nat × Keyframe → Bool) (h : p.wf = true) : Pool.wf (p.filter f) = true := by
  rw [Pool.wf_iff] at h ⊢
  exact ⟨h.1.filter _, fun c hc => h.2 c (List.mem_filter.mp hc).1⟩

theorem Pool.wf_erase {p : Pool} (i : Nat) (h : p.wf = true) : (p.erase i).wf = true := Pool.wf_filter _ h

theorem Pool.wf_freeRange {p : Pool} (first count : Nat) (h : p.wf = true) : (p.freeRange first count).wf = true :=
  Pool.wf_filter _ h

theorem Pool.mem_insert {p : Pool} {i : Nat} {k : Keyframe} {c : Nat × Keyframe} :
    c ∈ p.insert i k ↔ c = (i, k) ∨ c ∈ p := by
  induction p with
  | nil => simp [Pool.insert]
  | cons a p ih =>
    unfold Pool.insert
    split
    · simp
    · simp [ih]; tauto

theorem Pool.insert_rising {p : Pool} {i : Nat} {k : Keyframe} (h : p.Pairwise fun a b => a.1 < b.1)
    (hi : ∀ c ∈ p, c.1 ≠ i) : (p.insert i k).Pairwise fun a b => a.1 < b.1 := by
  induction p with
  | nil => simp [Pool.insert]
  | cons a p ih =>
    have ha := List.pairwise_cons.mp h
    unfold Pool.insert
    split
    · rename_i hlt
      refine List.pairwise_cons.mpr ⟨fun c hc => ?_, h⟩
      rcases List.mem_cons.mp hc with rfl | hc
      · exact hlt
      · exact lt_trans hlt (ha.1 c hc)
    · rename_i hlt
      refine List.pairwise_cons.mpr ⟨fun c hc => ?_, ih ha.2 fun c hc => hi c (by simp [hc])⟩
      rcases Pool.mem_insert.mp hc with rfl | hc
      · have := hi a (by simp)
        simp only; omega
      · exact ha.1 c hc

theorem Pool.wf_write {p : Pool} (i : Nat) (k : Keyframe) (h : p.wf = true) : (p.write i k).wf = true := by
  unfold Pool.write
  split
  · exact Pool.wf_erase i h
  · rename_i hk
    have he := (Pool.wf_iff _).mp (Pool.wf_erase i h)
    refine (Pool.wf_iff _).mpr ⟨Pool.insert_rising he.1 ?_, fun c hc => ?_⟩
    · intro c hc
      simpa using (List.mem_filter.mp hc).2
    · rcases Pool.mem_insert.mp hc with rfl | hc
      · exact hk
      · exact he.2 c hc

theorem Pool.wf_writeAll {p : Pool} (i : Nat) (ks : List Keyframe) (h : p.wf = true) :
    (p.writeAll i ks).wf = true := by
  induction ks generalizing p i with
  | nil => exact h
  | cons k ks ih => exact ih (i + 1) (Pool.wf_write i k h)

/-! Reads. -/

theorem Pool.read_filter {p : Pool} {f : Nat × Keyframe → Bool} {i : Nat} (h : ∀ k, f (i, k) = true) :
    Pool.read (p.filter f) i = p.read i := by
  induction p with
  | nil => rfl
  | cons a p ih =>
    obtain ⟨j, k⟩ := a
    by_cases hj : j = i
    · subst hj
      simp [h k, Pool.read]
    · by_cases hf : f (j, k) = true
      · simp [hf, Pool.read, hj, ih]
      · simp [hf, Pool.read, hj, ih]

theorem Pool.read_filter_none {p : Pool} {f : Nat × Keyframe → Bool} {i : Nat} (h : ∀ k, f (i, k) = false) :
    Pool.read (p.filter f) i = Keyframe.blank := by
  induction p with
  | nil => rfl
  | cons a p ih =>
    obtain ⟨j, k⟩ := a
    by_cases hf : f (j, k) = true
    · have hj : j ≠ i := by rintro rfl; simp [h k] at hf
      simp [hf, Pool.read, hj, ih]
    · simp [hf, ih]

theorem Pool.read_insert {p : Pool} {i j : Nat} {k : Keyframe} (hi : ∀ c ∈ p, c.1 ≠ i) :
    Pool.read (p.insert i k) j = if i = j then k else p.read j := by
  induction p with
  | nil => simp [Pool.insert, Pool.read]
  | cons a p ih =>
    have ha := hi a (by simp)
    have := ih fun c hc => hi c (by simp [hc])
    unfold Pool.insert
    split
    · simp [Pool.read]
    · by_cases h1 : a.1 = j
      · have : i ≠ j := by omega
        simp [Pool.read, h1, this]
      · simp [Pool.read, h1, this]

/-- A read after a write: the keyframe written at its index, and every other index as before. -/
theorem Pool.read_write (p : Pool) (i j : Nat) (k : Keyframe) :
    (p.write i k).read j = if i = j then k else p.read j := by
  have hj : i ≠ j → Pool.read (p.erase i) j = p.read j := fun h =>
    Pool.read_filter fun k => by simpa using Ne.symm h
  unfold Pool.write
  split
  · rename_i hk
    by_cases h : i = j
    · subst h
      simp only [if_true, hk]
      exact Pool.read_filter_none fun k => by simp
    · simp [h, hj h]
  · rw [Pool.read_insert fun c hc => by simpa using (List.mem_filter.mp hc).2]
    by_cases h : i = j
    · simp [h]
    · simp [h, hj h]

/-- A read after keyframes were written end to end from index i. -/
theorem Pool.read_writeAll (p : Pool) (i j : Nat) (ks : List Keyframe) :
    (p.writeAll i ks).read j = if h : i ≤ j ∧ j - i < ks.length then ks[j - i]'h.2 else p.read j := by
  induction ks generalizing p i with
  | nil => simp [Pool.writeAll]
  | cons k ks ih =>
    rw [Pool.writeAll, ih, Pool.read_write]
    by_cases h1 : i = j
    · subst h1
      simp
    · by_cases h2 : i + 1 ≤ j ∧ j - (i + 1) < ks.length
      · have h3 : i ≤ j ∧ j - i < (k :: ks).length := by simp; omega
        have h4 : j - i = (j - (i + 1)) + 1 := by omega
        simp only [h2, h3, h1, and_self, dite_true]
        simp [h4]
      · have h3 : ¬ (i ≤ j ∧ j - i < (k :: ks).length) := by simp; omega
        simp only [h2, h3, h1, dite_false, if_false]

/-- A read after a range was freed: nothing inside it, every other index as before. -/
theorem Pool.read_freeRange (p : Pool) (first count j : Nat) :
    (p.freeRange first count).read j =
      if first ≤ j ∧ j < first + count then Keyframe.blank else p.read j := by
  unfold Pool.freeRange
  split
  · exact Pool.read_filter_none fun k => by simp; omega
  · exact Pool.read_filter fun k => by simp; omega

/-- Ranges read alike where every index in them does. -/
theorem Pool.range_congr {p q : Pool} {first first' count : Nat}
    (h : ∀ i < count, p.read (first + i) = q.read (first' + i)) : p.range first count = q.range first' count := by
  unfold Pool.range
  exact List.map_congr_left fun i hi => h i (List.mem_range.mp hi)

@[simp] theorem Pool.range_length (p : Pool) (first count : Nat) : (p.range first count).length = count := by
  simp [Pool.range]

end Sys2Proof.Machine
end

