-- ==== Sys2Proof/Laws/Store.lean ====
section
/-! SUPPORT. What the operations on the preset store leave in each entry, in each range and in HWM (R2 to R4, R7, R12, R13, R15),
and that freeing a range keeps the store sound. -/

namespace Sys2Proof.Machine

variable {st : Store}

/-! Entries. -/

theorem directory_get_set (d : Vector DirEntry 32) (p q : Preset) (e : DirEntry) :
    (d.set p.val e p.isLt)[q.val]'q.isLt = if q = p then e else d[q.val]'q.isLt := by
  rw [Vector.getElem_set]
  simp [Fin.ext_iff, eq_comm]

/-- One entry written, the others kept. -/
theorem Store.entry_of_set {p q : Preset} {e : DirEntry} {d : Vector DirEntry 32}
    (h : st.directory = d.set p.val e p.isLt) : st.entry q = if q = p then e else d[q.val]'q.isLt := by
  unfold Store.entry
  rw [h]
  exact directory_get_set _ _ _ _

theorem Store.setEntry_entry (p q : Preset) (e : DirEntry) :
    (st.setEntry p e).entry q = if q = p then e else st.entry q := Store.entry_of_set rfl

/-- Freeing empties one entry and keeps the others (R4). -/
theorem Store.free_entry (p q : Preset) : (st.free p).entry q = if q = p then DirEntry.empty else st.entry q :=
  Store.entry_of_set rfl

@[simp] theorem Store.free_download (p : Preset) : (st.free p).download = st.download := rfl
@[simp] theorem Store.free_recording (p : Preset) : (st.free p).recording = st.recording := rfl
@[simp] theorem Store.free_compacting (p : Preset) : (st.free p).compacting = st.compacting := rfl
@[simp] theorem Store.free_rangeCheckDue (p : Preset) : (st.free p).rangeCheckDue = st.rangeCheckDue := rfl

/-! The highest end of a range. -/

theorem foldl_max_ge (l : List Nat) : ∀ a, a ≤ l.foldl max a ∧ ∀ x ∈ l, x ≤ l.foldl max a := by
  induction l with
  | nil => simp
  | cons b l ih =>
    intro a
    obtain ⟨h1, h2⟩ := ih (max a b)
    refine ⟨?_, ?_⟩
    · simp only [List.foldl_cons]
      omega
    · intro x hx
      simp only [List.foldl_cons]
      rcases List.mem_cons.mp hx with rfl | hx
      · omega
      · exact h2 x hx

theorem foldl_max_mem (l : List Nat) : ∀ a, l.foldl max a = a ∨ l.foldl max a ∈ l := by
  induction l with
  | nil => simp
  | cons b l ih =>
    intro a
    simp only [List.foldl_cons, List.mem_cons]
    rcases ih (max a b) with h | h
    · rw [h]
      omega
    · exact .inr (.inr h)

/-- Every range ends at or below the top (R4). -/
theorem topOf_ge (d : Vector DirEntry 32) (p : Preset) (h : (d[p.val]'p.isLt).state ≠ .empty) :
    (d[p.val]'p.isLt).first + (d[p.val]'p.isLt).count ≤ topOf d := by
  refine (foldl_max_ge _ 0).2 _ ?_
  refine List.mem_map.mpr ⟨d[p.val]'p.isLt, by simp, ?_⟩
  simp [DirEntry.owns, h]

/-- The top is 0, or the end of some range (R4). -/
theorem topOf_attained (d : Vector DirEntry 32) :
    topOf d = 0 ∨ ∃ p : Preset, (d[p.val]'p.isLt).state ≠ .empty ∧
      (d[p.val]'p.isLt).first + (d[p.val]'p.isLt).count = topOf d := by
  unfold topOf
  rcases foldl_max_mem (d.toList.map fun e => if e.owns then e.first + e.count else 0) 0 with h | h
  · exact .inl h
  · obtain ⟨e, he, hv⟩ := List.mem_map.mp h
    by_cases ho : e.owns = true
    · obtain ⟨i, hi, rfl⟩ := Vector.mem_iff_getElem.mp (Vector.mem_toList_iff.mp he)
      refine .inr ⟨⟨i, hi⟩, by simpa [DirEntry.owns] using ho, ?_⟩
      rw [← hv]
      simp [ho]
    · left
      rw [← hv]
      simp [ho]

/-- HWM after a freeing (R4). -/
theorem Store.free_hwm (p : Preset) :
    ((st.entry p).first + (st.entry p).count ≠ st.hwm → (st.free p).hwm = st.hwm) ∧
    ((st.entry p).first + (st.entry p).count = st.hwm →
      (∀ q : Preset, q ≠ p → (st.entry q).state ≠ .empty → (st.entry q).first + (st.entry q).count ≤ (st.free p).hwm) ∧
      ((st.free p).hwm = 0 ∨ ∃ q : Preset, q ≠ p ∧ (st.entry q).state ≠ .empty ∧
        (st.entry q).first + (st.entry q).count = (st.free p).hwm)) := by
  have key : ∀ q : Preset, (st.directory.set p.val DirEntry.empty p.isLt)[q.val]'q.isLt =
      if q = p then DirEntry.empty else st.entry q := fun q => directory_get_set _ _ _ _
  refine ⟨fun h => by simp [Store.free, h], fun h => ?_⟩
  have e : (st.free p).hwm = topOf (st.directory.set p.val DirEntry.empty p.isLt) := by simp [Store.free, h]
  rw [e]
  refine ⟨fun q hq hs => ?_, ?_⟩
  · have := topOf_ge (st.directory.set p.val DirEntry.empty p.isLt) q (by rw [key, if_neg hq]; exact hs)
    rwa [key, if_neg hq] at this
  · rcases topOf_attained (st.directory.set p.val DirEntry.empty p.isLt) with h0 | ⟨q, hs, hv⟩
    · exact .inl h0
    · rw [key] at hs hv
      by_cases hq : q = p
      · exact absurd (by simp [hq, DirEntry.empty]) hs
      · rw [if_neg hq] at hs hv
        exact .inr ⟨q, hq, hs, hv⟩

/-! Keyframes. -/

/-- Freeing a range keeps the keyframes of a range apart from it (R4). -/
theorem Store.free_keyframes {p q : Preset} (hq : q ≠ p) (h : (st.entry q).count = 0 ∨ (st.entry p).apart (st.entry q)) :
    (st.free p).keyframes q = st.keyframes q := by
  unfold Store.keyframes
  rw [Store.free_entry, if_neg hq]
  refine Pool.range_congr fun i hi => ?_
  show (st.pool.freeRange _ _).read _ = _
  rw [Pool.read_freeRange, if_neg]
  rcases h with h | h | h <;> omega

/-! Soundness of a freeing. -/

/-- An EMPTY entry holds no keyframe. -/
theorem Store.Sound.count_empty (h : st.Sound) {p : Preset} (hp : (st.entry p).state = .empty) : (st.entry p).count = 0 := by
  rw [h.emptyValues p hp]
  rfl

theorem Store.Sound.free_keyframes (h : st.Sound) {p q : Preset} (hp : (st.entry p).state ≠ .empty) (hq : q ≠ p) :
    (st.free p).keyframes q = st.keyframes q := by
  refine Store.free_keyframes hq ?_
  by_cases hs : (st.entry q).state = .empty
  · exact .inl (h.count_empty hs)
  · exact .inr (h.apart p q (Ne.symm hq) hp hs)

/-- HWM does not rise at a freeing, and stays at or above every range left. -/
theorem Store.Sound.free_hwm (h : st.Sound) (p : Preset) :
    (st.free p).hwm ≤ st.hwm ∧ ∀ q : Preset, q ≠ p → (st.entry q).state ≠ .empty →
      (st.entry q).first + (st.entry q).count ≤ (st.free p).hwm := by
  obtain ⟨h1, h2⟩ := Store.free_hwm (st := st) p
  by_cases he : (st.entry p).first + (st.entry p).count = st.hwm
  · obtain ⟨h3, h4⟩ := h2 he
    refine ⟨?_, h3⟩
    rcases h4 with h4 | ⟨q, -, hs, h4⟩
    · omega
    · have := h.below q hs
      omega
  · rw [h1 he]
    exact ⟨le_refl _, fun q _ hs => h.below q hs⟩

/-- A range that ends at HWM is the only one: freeing another range keeps HWM. -/
theorem Store.Sound.free_hwm_below (h : st.Sound) {p q : Preset} (hpq : q ≠ p) (hp : 1 ≤ (st.entry p).count)
    (hps : (st.entry p).state ≠ .empty) (hq : 1 ≤ (st.entry q).count) (hqs : (st.entry q).state ≠ .empty)
    (he : (st.entry q).first + (st.entry q).count = st.hwm) : (st.free p).hwm = st.hwm := by
  refine (Store.free_hwm (st := st) p).1 ?_
  rcases h.apart q p hpq hqs hps with h1 | h1 <;> omega

/-- Freeing a READY range keeps the store sound, a download or recording in progress included (R4). -/
theorem Store.Sound.free_ready (h : st.Sound) {p : Preset} (hp : (st.entry p).state = .ready) : (st.free p).Sound := by
  obtain ⟨hw, hb⟩ := h.free_hwm p
  have hp2 := h.ready p hp
  have hpe : (st.entry p).state ≠ .empty := by simp [hp]
  constructor
  · exact Pool.wf_freeRange _ _ h.canonical
  · exact le_trans hw h.hwm
  · intro q hq
    rw [Store.free_entry] at hq ⊢
    by_cases hqp : q = p
    · simp [hqp, DirEntry.empty] at hq
    · rw [if_neg hqp] at hq ⊢
      exact hb q hqp hq
  · intro q r hqr hq hr'
    rw [Store.free_entry] at hq hr' ⊢
    rw [Store.free_entry]
    by_cases hqp : q = p
    · simp [hqp, DirEntry.empty] at hq
    · by_cases hrp : r = p
      · simp [hrp, DirEntry.empty] at hr'
      · rw [if_neg hqp] at hq ⊢
        rw [if_neg hrp] at hr' ⊢
        exact h.apart q r hqr hq hr'
  · intro q hq
    rw [Store.free_entry] at hq ⊢
    by_cases hqp : q = p
    · rw [if_pos hqp]
    · rw [if_neg hqp] at hq ⊢
      exact h.emptyValues q hq
  · intro q hq
    rw [Store.free_entry] at hq ⊢
    by_cases hqp : q = p
    · simp [hqp, DirEntry.empty] at hq
    · rw [if_neg hqp] at hq ⊢
      exact h.ready q hq
  · intro q hq
    rw [Store.free_entry] at hq ⊢
    by_cases hqp : q = p
    · simp [hqp, DirEntry.empty] at hq
    · rw [if_neg hqp] at hq ⊢
      obtain ⟨h1, h2, h3⟩ := h.loading q hq
      rw [h.free_hwm_below hqp (by omega) hpe (by omega) (by simp [hq]) h2]
      exact ⟨h1, h2, h3⟩
  · intro q hq
    rw [Store.free_entry] at hq ⊢
    by_cases hqp : q = p
    · simp [hqp, DirEntry.empty] at hq
    · rw [if_neg hqp] at hq ⊢
      obtain ⟨h1, h2, h3⟩ := h.recording q hq
      rw [h.free_hwm_below hqp (by omega) hpe (by omega) (by simp [hq]) h2]
      exact ⟨h1, h2, h3⟩
  · intro d hd
    have hdp : d.preset ≠ p := by
      rintro rfl
      have := (h.download d hd).1
      simp [hp] at this
    rw [Store.free_entry, if_neg hdp]
    exact h.download d hd
  · intro r hr
    have hrp : r.preset ≠ p := by
      rintro rfl
      have := h.recorder r hr
      simp [hp] at this
    rw [Store.free_entry, if_neg hrp]
    exact h.recorder r hr

/-! The check of the soft range (R23). -/

/-- A keyframe outside the range is found exactly where there is one. -/
theorem firstOutside_isSome (lo hi : Int) (ks : List Keyframe) :
    ∀ i, (firstOutside lo hi ks i).isSome = true ↔ ∃ k ∈ ks, k.position < lo ∨ hi < k.position := by
  induction ks with
  | nil => simp [firstOutside]
  | cons k ks ih =>
    intro i
    unfold firstOutside
    split
    · rename_i h
      exact ⟨fun _ => ⟨k, by simp, h⟩, fun _ => rfl⟩
    · rename_i h
      rw [ih]
      constructor
      · rintro ⟨k', hk', hv⟩
        exact ⟨k', List.mem_cons_of_mem _ hk', hv⟩
      · rintro ⟨k', hk', hv⟩
        rcases List.mem_cons.mp hk' with rfl | hk'
        · exact absurd hv h
        · exact ⟨k', hk', hv⟩

/-- Checking entries one after another keeps the store sound, frees each READY entry of the list that has a position outside
the range, and keeps every other entry with its keyframes. -/
theorem Store.checkEntries_spec (lo hi : Int) (l : List Preset) : ∀ st : Store, st.Sound →
    (l.foldl (Store.checkEntry lo hi) st).Sound ∧ ∀ p : Preset,
      (p ∈ l → (st.entry p).state = .ready → (∃ k ∈ st.keyframes p, k.position < lo ∨ hi < k.position) →
        (l.foldl (Store.checkEntry lo hi) st).entry p = DirEntry.empty) ∧
      ((st.entry p).state ≠ .ready ∨ (∀ k ∈ st.keyframes p, lo ≤ k.position ∧ k.position ≤ hi) ∨ p ∉ l →
        (l.foldl (Store.checkEntry lo hi) st).entry p = st.entry p ∧
        (l.foldl (Store.checkEntry lo hi) st).keyframes p = st.keyframes p) := by
  induction l with
  | nil => intro st h; exact ⟨h, fun p => ⟨by simp, by simp⟩⟩
  | cons q l ih =>
    intro st h
    simp only [List.foldl_cons]
    have hs : (st.checkEntry lo hi q).Sound ∧
        (((st.entry q).state = .ready → (∃ k ∈ st.keyframes q, k.position < lo ∨ hi < k.position) →
          (st.checkEntry lo hi q).entry q = DirEntry.empty)) ∧
        ((st.entry q).state ≠ .ready ∨ (∀ k ∈ st.keyframes q, lo ≤ k.position ∧ k.position ≤ hi) →
          st.checkEntry lo hi q = st) ∧
        ∀ p, p ≠ q → (st.checkEntry lo hi q).entry p = st.entry p ∧
          (st.checkEntry lo hi q).keyframes p = st.keyframes p := by
      unfold Store.checkEntry
      simp only [firstOutside_isSome]
      split
      · rename_i hc
        refine ⟨h.free_ready hc.1, fun _ _ => by rw [Store.free_entry, if_pos rfl], ?_, ?_⟩
        · rintro (h1 | h1)
          · exact absurd hc.1 h1
          · obtain ⟨k, hk, hv⟩ := hc.2
            have := h1 k hk
            omega
        · intro p hp
          exact ⟨by rw [Store.free_entry, if_neg hp], h.free_keyframes (by simp [hc.1]) hp⟩
      · rename_i hc
        exact ⟨h, fun h1 h2 => absurd ⟨h1, h2⟩ hc, fun _ => rfl, fun _ _ => ⟨rfl, rfl⟩⟩
    obtain ⟨h1, h2, h3, h4⟩ := hs
    obtain ⟨i1, i2⟩ := ih _ h1
    refine ⟨i1, fun p => ⟨?_, ?_⟩⟩
    · intro hp hr ho
      by_cases hpq : p = q
      · subst hpq
        have he := h2 hr ho
        have := ((i2 p).2 (.inl (by rw [he]; decide))).1
        rw [this, he]
      · obtain ⟨e1, e2⟩ := h4 p hpq
        rcases List.mem_cons.mp hp with hp | hp
        · exact absurd hp hpq
        · exact (i2 p).1 hp (by rw [e1]; exact hr) (by rw [e2]; exact ho)
    · intro hc
      by_cases hpq : p = q
      · subst hpq
        rcases hc with hc | hc | hc
        · have e := h3 (.inl hc)
          rw [e] at i2 ⊢
          exact (i2 p).2 (.inl hc)
        · have e := h3 (.inr hc)
          rw [e] at i2 ⊢
          exact (i2 p).2 (.inr (.inl hc))
        · exact absurd (List.mem_cons_self ..) hc
      · obtain ⟨e1, e2⟩ := h4 p hpq
        have := (i2 p).2 (by
          rw [e1, e2]
          rcases hc with hc | hc | hc
          · exact .inl hc
          · exact .inr (.inl hc)
          · exact .inr (.inr fun hp => hc (List.mem_cons_of_mem _ hp)))
        rw [this.1, this.2]
        exact ⟨e1, e2⟩

/-- The check of every entry keeps the store sound (R23). -/
theorem Store.Sound.checkRanges (h : st.Sound) (lo hi : Int) : (st.checkRanges lo hi).Sound :=
  (Store.checkEntries_spec lo hi presets st h).1

theorem mem_presets (p : Preset) : p ∈ presets := List.mem_finRange p

/-! What a download's lapse and a recording leave of a READY preset. -/

/-- Writing another entry, the pool as it stands, keeps a preset's entry and keyframes. -/
theorem Store.entry_written {st st' : Store} {p q : Preset} {e : DirEntry}
    (hd : st'.directory = st.directory.set q.val e q.isLt) (hp : st'.pool = st.pool) (h : p ≠ q) :
    st'.entry p = st.entry p ∧ st'.keyframes p = st.keyframes p := by
  have he : st'.entry p = st.entry p := (Store.entry_of_set hd).trans (if_neg h)
  exact ⟨he, by unfold Store.keyframes; rw [he, hp]⟩

/-- Freeing a range of a sound store keeps every other preset's entry and keyframes. -/
theorem Store.Sound.free_other (h : st.Sound) {p q : Preset} (hq : (st.entry q).state ≠ .empty) (hne : p ≠ q) :
    (st.free q).entry p = st.entry p ∧ (st.free q).keyframes p = st.keyframes p :=
  ⟨(Store.free_entry q p).trans (if_neg hne), h.free_keyframes hq hne⟩

/-- Two presets whose entries stand in different states are different presets. -/
theorem Store.ne_of_state {p q : Preset} (h : (st.entry p).state ≠ (st.entry q).state) : p ≠ q := by
  rintro rfl
  exact h rfl

/-- A download that lapses keeps every READY preset (R10). -/
theorem Store.Sound.discardDownload_ready (h : st.Sound) {p : Preset} (hp : (st.entry p).state = .ready) :
    st.discardDownload.entry p = st.entry p ∧ st.discardDownload.keyframes p = st.keyframes p := by
  unfold Store.discardDownload
  split
  · exact ⟨rfl, rfl⟩
  · rename_i d hd
    have hl := (h.download d hd).1
    exact h.free_other (by rw [hl]; decide) (Store.ne_of_state (by rw [hp, hl]; decide))

/-- The end of a recording keeps every READY preset (R14, R15). -/
theorem State.closeRecording_ready {s : State} {r : Recording} (b : Bool) (h : s.store.Sound)
    (hr : s.store.recording = some r) {p : Preset} (hp : (s.store.entry p).state = .ready) :
    (s.closeRecording r b).store.entry p = s.store.entry p ∧
    (s.closeRecording r b).store.keyframes p = s.store.keyframes p := by
  have hs := h.recorder r hr
  have hne : p ≠ r.preset := Store.ne_of_state (by rw [hp, hs]; decide)
  unfold State.closeRecording
  split
  · exact Store.entry_written rfl rfl hne
  · exact h.free_other (by rw [hs]; decide) hne

/-- A recording's work at an expiry keeps every READY preset (R13, R14). -/
theorem State.recordExpiry_ready {s : State} (h : s.store.Sound) {p : Preset} (hp : (s.store.entry p).state = .ready) :
    s.recordExpiry.store.entry p = s.store.entry p ∧ s.recordExpiry.store.keyframes p = s.store.keyframes p := by
  unfold State.recordExpiry
  split
  · exact ⟨rfl, rfl⟩
  · rename_i r hr
    have hs := h.recorder r hr
    have hne : p ≠ r.preset := Store.ne_of_state (by rw [hp, hs]; decide)
    dsimp only
    split
    · exact State.closeRecording_ready true h hr hp
    · split
      · have he : (s.capture { r with elapsed := r.elapsed + 1 } (r.elapsed + 1)).store.entry p = s.store.entry p :=
          (Store.entry_of_set rfl).trans (if_neg hne)
        refine ⟨he, ?_⟩
        unfold Store.keyframes
        rw [he]
        refine Pool.range_congr fun i hi => ?_
        have hb := h.below p (by rw [hp]; decide)
        have hi' : (s.store.entry p).first + i ≠ s.store.hwm := by omega
        unfold State.capture
        rw [State.setStore_store, Pool.read_write, if_neg (Ne.symm hi')]
      · exact ⟨rfl, rfl⟩

end Sys2Proof.Machine
end

