-- ==== Sys2Proof/WellFormed.lean ====
section
/-! DEFINITION. Which terms of Instr a sender can form: the bounds that a frame's payload of at most 64 bytes (R157),
the 64 keys (R160) and the split of one request kind over several rows put on a command. -/

namespace Sys2Proof

/-- The request kind bytes of the owner table (R172, chapter 11). -/
def requestKinds : List Byte :=
  [0x01, 0x02, 0x03, 0x04, 0x05, 0x10, 0x11, 0x12, 0x13, 0x14, 0x15, 0x16, 0x17, 0x20, 0x21, 0x22]

/-- A key the other stations offer is one of 0..63 (R160). -/
def WindowEvent.wellFormed : WindowEvent → Bool
  | .whole (some k) => k < 64
  | .slot (some k) => k < 64
  | .whole none => true
  | .slot none => true
  | .opening => true

/-- The check of a command: what no frame, record or event can spell is refused here.
A STICK payload is 1 + 5 channels long and KEYFRAME_WRITE's 7 + 8 keyframes, both at most 64 (R157, R187, R188). -/
def Instr.wellFormed : Instr → Bool
  | .powerOnReset _ => true
  | .rstnAssert => true
  | .rstnRelease _ => true
  | .controlPeriodExpiry => true
  | .seekCompletion => true
  | .passEnd => true
  | .haltComplete => true
  | .downloadLapse => true
  | .ownerLapse => true
  | .contestExpiry => true
  | .configExchangeInterval => true
  | .markSample _ => true
  | .drdyRise => true
  | .exchangeComplete _ => true
  | .contentionWindow e => e.wellFormed
  | .transmissionComplete => true
  | .badArrival => true
  | .errorWindowEnd _ => true
  | .halt _ _ _ _ => true
  | .resume _ _ => true
  | .stick _ _ channels => channels.length ≤ 12
  | .load _ _ _ _ _ => true
  | .seek _ _ _ => true
  | .go _ _ _ => true
  | .stop _ _ _ => true
  | .hold _ _ _ => true
  | .release _ _ _ => true
  | .loopEnd _ _ _ => true
  | .recStart _ _ _ _ => true
  | .recStop _ _ => true
  | .state _ _ _ => true
  | .serviceReply _ => true
  | .unknownKind _ => true
  | .ident _ _ => true
  | .startRecordWriteSection1 _ (.badSection n) => n ≠ 1 && n ≠ 2
  | .startRecordWriteSection1 _ .wrongLength => true
  | .startRecordWriteSection1 _ (.fields _) => true
  | .startRecordWriteSection2 _ _ => true
  | .restart _ _ _ => true
  | .statusRead _ _ => true
  | .statusReadPeer _ _ => true
  | .countersRead _ _ => true
  | .presetOpen _ _ => true
  | .keyframeWrite _ (.fields a) => a.keyframes.length ≤ 7
  | .keyframeWrite _ .wrongLength => true
  | .presetClose _ _ => true
  | .presetErase _ _ => true
  | .presetEdit _ _ => true
  | .directoryRead _ _ => true
  | .keyframeRead _ _ => true
  | .poolCompact _ _ => true
  | .compactionComplete => true
  | .triggerArm _ _ => true
  | .triggerDisarm _ _ => true
  | .triggerRead _ _ => true
  | .unknownRequestKind _ kind => !requestKinds.contains kind
  | .drdyFall => true

end Sys2Proof
end

