-- ==== Sys2Proof/Tests/Slice0.lean ====
section
/-! SUPPORT. The model's own checks: the terms that Instr.wellFormed refuses, the spec's worked examples as one step each, and
for the statements that have hypotheses the states that meet them. -/

namespace Sys2Proof.Tests

open Sys2Proof Sys2Proof.Machine

/-! The states the checks are made on. -/

/-- The state a command leaves. -/
def after (c : Instr) (s : State) : State :=
  match exec c s with
  | .next t => t
  | .fault _ => s
  | .refused _ => s

def section1 : Section1 :=
  { axisKind := .boom, controlPeriod := 2000, vmax := 8000000, amax := 1000000, aHalt := 2000000, lo := -50000,
    hi := 100000, startWindow := 20, catchStep := 512, vseek := 1000000, vstick := 6553600, deadband := 1000,
    expo := 128, takeThreshold := 4000 }

def section2 : Section2 :=
  { feLimit := 200, feCount := 3, guardFactor := 192, windowSize := 64, badThreshold := 4, couplingSource := some 6,
    r0 := 2000, k := 3000000000, lmax := 6000, markMode := .pattern, markMask := 0b1100, markPattern := 0,
    markAction := .go, goMask := 0x26 }

def frozenRecord : StartRecord := { toSection1 := section1, toSection2 := section2 }

/-- A READY preset 0 of two keyframes at indices 0 and 1. -/
def twoFrames : Store :=
  { Store.reset with
    directory := Store.reset.directory.set 0 { DirEntry.empty with state := .ready, count := 2 }
    pool := [(0, { time := 0, position := 10, shape := .linear }), (1, { time := 100, position := 60, shape := .ease })]
    hwm := 2 }

/-- Station 2 in CONFIG, DRDY high, nothing written. -/
def config : State := State.afterReset 2 { rstn := true, drdy := true }

/-- Station 2 in CONFIG with section 1 staged. -/
def staged : State := config.setStart { config.start with staged := some section1 }

/-- Station 2 in RUN under a frozen record, in MANUAL, with the READY preset 0. -/
def shot : State :=
  ((config.setStart { record := some frozenRecord, staged := none, station := 2 }).setStore twoFrames).setHalt
    { Halt.reset with station := .run, epoch := 7 }

/-- The shot with cue 9 on preset 0 in NEXT. -/
def loaded : State := shot.setNext { state := .loaded, preset := 0, cueId := 9, condition := .follow }

/-- The shot with that cue seeking. -/
def seeking : State := loaded.setNext { loaded.next with state := .seeking }

/-- The shot with that cue started at stations 2 and 3. -/
def playing : State := loaded.startCue 0x000C

/-- The shot with a recording of preset 1 just started. -/
def recording : State := shot.startRecording 1 10

/-- The shot with a download of preset 1 just opened by station 3. -/
def download : State := shot.setStore (twoFrames.openDownload 3 1 2 ModeFields.initial)

/-- The shot with a compaction in flight. -/
def compacting : State := shot.setStore { twoFrames with compacting := true }

/-- The shot halted by MARK, still decelerating. -/
def halting : State := (shot.setBlend { shot.blend with v := 20000 }).localFault causeMark

/-- The shot halted by MARK and at rest. -/
def halted : State := halting.setHalt { halting.halt with station := .halted }

/-- A setpoint record in flight to the drive. -/
def sent : Setpoint := { sequence := 5, position := 100, velocity := 0, enable := true, halting := false }

/-- The state with an exchange under way. -/
def exchanging (s : State) : State := s.setPort { s.port with inFlight := some sent }

/-- A request of station 3 to station 2. -/
def header : ReqHeader := { sender := 3, target := 2, tag := 0x77 }

/-! What the check of commands refuses. -/

def channel : Channel := { target := 2, deflection := 0, gain := 0, flags := 0 }

def rawKeyframe : RawKeyframe := { time := 0, position := 0, shape := 0 }

theorem test_keyAbove63InAWindowIsRefused :
    (Instr.contentionWindow (.whole (some 64))).wellFormed = false ∧
    (Instr.contentionWindow (.slot (some 64))).wellFormed = false ∧
    (Instr.contentionWindow (.slot (some 63))).wellFormed = true := by decide

theorem test_thirteenChannelsAreRefused :
    (Instr.stick 0 0 (List.replicate 13 channel)).wellFormed = false ∧
    (Instr.stick 0 0 (List.replicate 12 channel)).wellFormed = true := by decide

theorem test_eightKeyframesAreRefused :
    (Instr.keyframeWrite header (.fields { preset := 0, start := 0, keyframes := List.replicate 8 rawKeyframe })).wellFormed
      = false ∧
    (Instr.keyframeWrite header (.fields { preset := 0, start := 0, keyframes := List.replicate 7 rawKeyframe })).wellFormed
      = true := by decide

theorem test_sectionsOneAndTwoAreNoBadSection :
    (Instr.startRecordWriteSection1 header (.badSection 1)).wellFormed = false ∧
    (Instr.startRecordWriteSection1 header (.badSection 2)).wellFormed = false ∧
    (Instr.startRecordWriteSection1 header (.badSection 3)).wellFormed = true := by decide

theorem test_aKnownKindIsNoUnknownKind :
    (Instr.unknownRequestKind header 0x22).wellFormed = false ∧
    (Instr.unknownRequestKind header 0x23).wellFormed = true := by decide

/-! Operations, on the spec's worked figures. -/

def easeAndHold : List Keyframe :=
  [{ time := 0, position := 0, shape := .ease }, { time := 1000, position := 200000, shape := .linear },
   { time := 1500, position := 200000, shape := .linear }]

theorem test_presetPositionOfTheExample : presetPosition easeAndHold 16416768 = 2055200000 := by decide

theorem test_stickShapingOfTheExample :
    stickVelocity frozenRecord 255 20000 = 2660881 ∧
    stickVelocity { frozenRecord with expo := 256 } 128 (-20000) = -703770 ∧
    stickVelocity frozenRecord 128 32767 = 3289650 := by decide

theorem test_couplingRatesOfTheExample :
    [-50, 3000, 3500, 4000, 4500, 5000, 6500].map (couplingRate frozenRecord) =
      [1500000, 600000, 545454, 500000, 461538, 428571, 375000] := by decide

theorem test_abilityOfTheExample : abilityFor 450000 375000 = 54613 ∧ abilityFor 14800000 10000000 = 44281 := by decide

/-- The axis of the braking example; `x` and `v` are what the last expiry stored. -/
def brakingLimits : Limits :=
  { vlim := 8000000, amax := 1000000, lo := fu (-50000), hi := fu 100000, seekTarget := none, posLimit := false,
    negLimit := false }

def brakingStep (x v : Int) : Blend :=
  limitStage brakingLimits { x := x, v := v, atLimit := false, taking := false } (x + 100000000)

theorem test_brakingIntoASoftLimit :
    brakingStep 6547600000 4000000 = { x := 6551064101, v := 3464101, atLimit := false, taking := false } ∧
    brakingStep 6551064101 3464101 = { x := 6553528202, v := 2464101, atLimit := false, taking := false } ∧
    brakingStep 6553528202 2464101 = { x := 6553600000, v := 71798, atLimit := true, taking := false } ∧
    brakingStep 6553600000 71798 = { x := 6553600000, v := 0, atLimit := false, taking := false } := by decide

/-- Expiry 8 of the take and handback example. -/
theorem test_handbackOfTheExample :
    let run : RunningSlot :=
      { RunningSlot.idle with state := .playing, mode := .take, fadeStep := 1024, handbackDelay := 3, handback := 2,
                              takeWeight := 4096, shadow := 1205000 }
    let sup : Supply := { d := 0, v := 0, live := true }
    let t := modeStep frozenRecord sup 1080000 (takingStep frozenRecord sup run true) run
    takingStep frozenRecord sup run true = false ∧ t.handback = 3 ∧ t.takeWeight = 3072 ∧ t.shadow = 1205000 ∧
    cueBase 1080000 t = 1173750 := by decide

/-! Steps. -/

theorem test_emptyQueueIdles : (match step State.reset with | .next t => decide (t = State.reset) | _ => false) = true := by
  decide

theorem test_resetPoolIsCanonical : State.reset.store.pool.wf = true ∧ twoFrames.pool.wf = true := by decide

/-- The coupling source is silent: the rate is that of the blind coupling value. -/
theorem test_manualExpiryMoves :
    (after .controlPeriodExpiry (shot.setStick
      { owner := some 3, deflection := 32767, gain := 255, holdAge := 0, phase := .live, ownerSequence := 0, contest := 0,
        lapsed := false })).blend = { x := 375000, v := 375000, atLimit := false, taking := false } := by decide

theorem test_halfSwungStickClaims :
    (after (.stick 3 40 [{ channel with deflection := 12000, gain := 255 }]) shot).stick =
      { owner := some 3, deflection := 12000, gain := 255, holdAge := 0, phase := .live, ownerSequence := 40,
        contest := 0, lapsed := false } := by decide

theorem test_secondPanelContests :
    let s := after (.stick 3 40 [{ channel with deflection := 12000 }]) shot
    (after (.stick 4 7 [channel]) s).stick = { s.stick with contest := 100 } ∧
    (after (.stick 4 7 [channel]) s).link.counters.stickContest = 1 := by decide

theorem test_skippedFramesAreGaps :
    (after (.stick 3 43 [channel]) (after (.stick 3 40 [channel]) shot)).link.counters.stickGap = 2 := by decide

theorem test_goStartsAtTheFirstKeyframe :
    playing.running.state = .playing ∧ playing.running.shadow = 655360 ∧ playing.next = NextSlot.empty ∧
    (after (.go 3 0x0C 9) loaded).running = playing.running := by decide

theorem test_freshStartKeepsCueTime :
    (after .controlPeriodExpiry playing).running.cueTime = 0 ∧
    (after .controlPeriodExpiry (after .controlPeriodExpiry playing)).running.cueTime = 65536 := by decide

theorem test_stopAndMiss :
    (after (.stop 3 0x0C 255) playing).running = RunningSlot.idle ∧
    (after (.stop 3 0x0C 255) shot).link.counters.cueMiss = 1 ∧ after (.stop 3 0x08 255) shot = shot.heard := by decide

theorem test_recordingCaptures :
    recording.store.hwm = 3 ∧ (recording.store.entry 1).first = 2 ∧
    (after (.recStop 3 0x04) (after .controlPeriodExpiry recording)).store.entry 1 =
      { DirEntry.empty with state := .ready, first := 2, count := 2 } := by decide

theorem test_tooShortRecordingIsFreed :
    (after (.recStop 3 0x04) recording).store = twoFrames ∧
    (after (.recStop 3 0x04) recording).link.counters.cueMiss = 1 := by decide

theorem test_haltFrameHalts :
    (after (.halt 3 5 0x04 9) playing).halt =
      { station := .halting, causes := causeRemote, epoch := 7,
        record := some { origin := 5, entryCauses := causeRemote, originCauses := 0x04, entryEpoch := 7 } } ∧
    (after (.halt 3 5 0x04 9) playing).running = RunningSlot.idle := by decide

theorem test_resumeReturnsToRun :
    (after (.resume 3 8) halted).halt.station = .run ∧ (after (.resume 3 8) halted).halt.epoch = 8 ∧
    (after (.resume 3 8) halting).halt = { halting.halt with epoch := 8 } := by decide

theorem test_haltingDecelerates :
    (after .controlPeriodExpiry (halting.setBlend { halting.blend with v := 3000000 })).blend.v = 1000000 ∧
    (after .controlPeriodExpiry halting).halt.station = .halted := by decide

/-- The following error example at its third over-limit feedback. -/
theorem test_followingErrorHalts :
    let s := (exchanging shot).setPort { (exchanging shot).port with followingRun := 2 }
    let t := after (.exchangeComplete { echo := 5, measured := 301, status := 0x5A, limits := 0 }) s
    t.port.error = 201 ∧ t.port.followingRun = 3 ∧ t.halt.causes = causeFollowing ∧ t.halt.station = .halting ∧
    t.link.haltSlot = some { origin := 2, causes := causeFollowing, epoch := 7 } := by decide

theorem test_thirdMissLosesTheDrive :
    let s := (exchanging shot).setPort { (exchanging shot).port with missRun := 2 }
    let t := after (.exchangeComplete { echo := 6, measured := 100, status := 0x5A, limits := 0 }) s
    t.port.missRun = 3 ∧ t.halt.causes = causeDriveLost ∧ t.port.measured = 0 := by decide

theorem test_handoverWaitsForTheDrive :
    (after .controlPeriodExpiry (after .drdyFall shot)).port.pendingRecord.isSome = true ∧
    (after .drdyRise (after .controlPeriodExpiry (after .drdyFall shot))).port.inFlight.isSome = true := by decide

theorem test_firstFeedbackEntersRun :
    let s := exchanging (config.setStart shot.start)
    let t := after (.exchangeComplete { echo := 5, measured := -120, status := 0x5A, limits := 0 }) s
    t.halt.station = .run ∧ t.blend.x = -7864320 := by decide

theorem test_triggerArmsThenFires :
    let s := shot.setTrigger { state := .arming, watched := 3, sense := .rising, threshold := 3000, hysteresis := 50,
                               cueId := 40, mask := 0x26 }
    (s.evaluateTrigger .run 2960).trigger.state = .arming ∧ (s.evaluateTrigger .run 2940).trigger.state = .armed ∧
    ((s.evaluateTrigger .run 2940).evaluateTrigger .run 3005).link.cueList = [.go 0x26 40] ∧
    ((s.evaluateTrigger .run 2940).evaluateTrigger .run 3005).trigger.state = .disarmed := by decide

/-- Both lines accepted open, then closed: sample events 4 to 6 of the two-switch example. -/
def openSwitches : State :=
  (loaded.setMark
    { lines := { mk0 := { previous := some true, accepted := some true }, mk1 := { previous := some true, accepted := some true },
                 mk2 := { previous := some true, accepted := some true },
                 mk3 := { previous := some true, accepted := some true } },
      standing := .out, latched := none })

theorem test_twoSwitchesFireOnce :
    let s := after (.markSample 0b1100) (after (.markSample 0b1100) openSwitches)
    (after (.markSample 0b1100) openSwitches).link.cueList = [] ∧ s.link.cueList = [.go 0x26 9] ∧
    (after (.markSample 0b1100) s).link.cueList = [.go 0x26 9] := by decide

theorem test_contentionIsWonByTheLowerKey :
    let s := shot.placeCue (.go 0x0C 40)
    (after (.contentionWindow (.whole (some 5))) s).link.inFlight = none ∧
    (after (.contentionWindow (.whole (some 33))) s).link.inFlight = some { key := 0x12, frame := .cue (.go 0x0C 40) } := by
  decide

theorem test_ownGoActsAtItsCompletion :
    let s := after (.contentionWindow (.whole none)) (loaded.placeCue (.go 0x0C 9))
    s.running.state = .idle ∧ (after .transmissionComplete s).running.state = .playing ∧
    (after .transmissionComplete s).link.inFlight = none := by decide

/-- Activity in an earlier slot withdraws the offer, and a RESTART leaves a running window with nothing offered. -/
theorem test_activityAndRestartWithdrawTheOffer :
    let s := after (.contentionWindow .opening) (halting.placeState halting.makeReport)
    let r := after (.contentionWindow .opening) (shot.placeState shot.makeReport)
    let u := (after (.restart header (.fields ()) 6) r).placeState shot.makeReport
    s.link.offer.isSome = true ∧ (after .badArrival s).link.offer = none ∧
    (after (.contentionWindow (.slot none)) (after .badArrival s)).link.inFlight = none ∧
    r.link.offer.isSome = true ∧ (after (.contentionWindow (.slot none)) u).link.inFlight = none := by decide

/-- A RESTART taken before the completion of an own GO: the frame runs to its end, and is then a miss counted after the
clearing. -/
theorem test_restartDuringAnOwnGo :
    let s := after (.contentionWindow (.whole none)) (loaded.placeCue (.go 0x44 9))
    let t := after (.restart header (.fields ()) 6) s
    t.halt = Halt.reset ∧ t.link.inFlight = s.link.inFlight ∧ t.link.inFlight.isSome = true ∧
    t.link.counters = Counters.zero ∧ (after .transmissionComplete t).link.counters.cueMiss = 1 := by decide

theorem test_errorWindowTurnsThePoorLinkOn :
    let s := shot.setLink { shot.link with arrivals := 63, badArrivals := 3 }
    (after .badArrival s).link.linkPoor = true ∧ (after (.errorWindowEnd false) s).link.linkPoor = false ∧
    (after (.errorWindowEnd true) shot) = shot := by decide

theorem test_crcCheckValue : crc16 [0x31, 0x32, 0x33, 0x34, 0x35, 0x36, 0x37, 0x38, 0x39] = 0x29B1 := by
  decide +kernel

theorem test_downloadIsOpenedAndClosed :
    let s := after (.keyframeWrite header (.fields { preset := 1, start := 0, keyframes :=
      [{ time := 0, position := 5, shape := 0 }, { time := 50, position := 6, shape := 1 }] })) download
    let t := after (.presetClose header (.fields 1)) { s with link := { s.link with replySlot := none } }
    (t.store.entry 1).state = .ready ∧ t.store.download = none ∧
    t.store.pool.read 3 = { time := 50, position := 6, shape := .ease } := by decide

theorem test_compactionClosesAGap :
    let st : Store := { twoFrames with
      directory := twoFrames.directory.set 4 { DirEntry.empty with state := .ready, first := 10, count := 2 }
      pool := twoFrames.pool ++ [(10, { time := 0, position := 3, shape := .hold }), (11, { time := 8, position := 4, shape := .hold })]
      hwm := 12, compacting := true }
    let t := after .compactionComplete (shot.setStore st)
    t.store.hwm = 4 ∧ (t.store.entry 4).first = 2 ∧ t.store.keyframes 4 = st.keyframes 4 ∧ t.store.compacting = false := by
  decide +kernel

theorem test_restartKeepsThePresets :
    let t := after (.restart header (.fields ()) 6) shot
    t.halt = Halt.reset ∧ t.store = twoFrames ∧ t.start = { record := none, staged := none, station := 6 } ∧
    t.link.replySlot.isSome = true := by decide

theorem test_resetPinAtWork :
    (after .rstnAssert compacting).store = Store.reset ∧
    (after (.rstnRelease 6) (after .rstnAssert playing)) = State.afterReset 6 { rstn := true, drdy := true } := by decide

/-! For each statement with hypotheses, states and operands that meet them, clause by clause. -/

theorem hears_shot : shot.hears 3 := ⟨rfl, rfl, by decide⟩
theorem hears_config : config.hears 3 := ⟨rfl, rfl, by decide⟩
theorem hears_halting : halting.hears 3 := ⟨rfl, by decide, by decide⟩
theorem hears_halted : halted.hears 3 := ⟨rfl, by decide, by decide⟩
theorem cued_shot : shot.cued 3 0x04 := ⟨hears_shot, by decide⟩
theorem cued_config : config.cued 3 0x04 := ⟨hears_config, by decide⟩
theorem cued_loaded : loaded.cued 3 0x04 := ⟨⟨rfl, rfl, by decide⟩, by decide⟩
theorem cued_seeking : seeking.cued 3 0x04 := ⟨⟨rfl, rfl, by decide⟩, by decide⟩
theorem cued_playing : playing.cued 3 0x04 := ⟨⟨rfl, rfl, by decide⟩, by decide⟩
theorem cued_recording : recording.cued 3 0x04 := ⟨⟨rfl, rfl, by decide⟩, by decide⟩
theorem serves_shot : shot.serves header := ⟨hears_shot, rfl, rfl⟩
theorem serves_config : config.serves header := ⟨hears_config, rfl, rfl⟩
theorem serves_staged : staged.serves header := ⟨⟨rfl, rfl, by decide⟩, rfl, rfl⟩
theorem serves_download : download.serves header := ⟨⟨rfl, rfl, by decide⟩, rfl, rfl⟩
theorem serves_compacting : compacting.serves header := ⟨⟨rfl, rfl, by decide⟩, rfl, rfl⟩

theorem witness_StepKeepsModeSound :
    (playing.setPending [.controlPeriodExpiry]).ModeSound ∧ (halting.setPending [.controlPeriodExpiry]).ModeSound ∧
    ∃ t, step (playing.setPending [.controlPeriodExpiry]) = .next t ∧ t.running.freshStart = false := by
  refine ⟨?_, ?_, _, rfl, by decide⟩ <;> constructor <;> decide

theorem witness_StepKeepsBounded :
    (playing.setPending [.controlPeriodExpiry]).Bounded ∧ ∃ t, step (playing.setPending [.controlPeriodExpiry]) = .next t := by
  refine ⟨?_, _, rfl⟩
  constructor <;> decide

theorem sound_twoFrames : twoFrames.Sound := by
  constructor <;> first | decide | (simp only [DirEntry.apart]; decide)

theorem witness_StepKeepsStoreSound :
    (playing.setPending [.controlPeriodExpiry]).StoreSound ∧
    ∃ t, step (playing.setPending [.controlPeriodExpiry]) = .next t :=
  ⟨⟨sound_twoFrames, by decide⟩, _, rfl⟩

theorem witness_StepKeepsPresetsPlayable :
    (playing.setPending [.controlPeriodExpiry]).ContentSound ∧
    ∃ t, step (playing.setPending [.controlPeriodExpiry]) = .next t := by
  refine ⟨⟨?_, ?_, ?_, ?_, ?_⟩, _, rfl⟩
  · rintro r ⟨⟩; decide
  · rintro r ⟨⟩
  · simp only [playable]; decide
  · rintro p r ⟨⟩; simp only [insideRange]; revert p; decide
  · rintro r ⟨⟩

theorem witness_OwnFramesDecode :
    ({ target := 0, tag := 0, kind := 1, code := .done, results := List.replicate 60 0 } : Reply).results.length = 60 := by
  decide

theorem witness_OwnReportDecodes :
    shot.makeReport.Carried ∧
    ({ Report.unset with measured := -2147483648, velocity := 2147483647, flags := 0x07FF, controlPeriod := 4000,
                         cueTime := 16777215, ability := 65536 } : Report).Carried := by
  constructor <;> constructor <;> decide

/-- The shot with the own GO in flight. -/
def sending : State := shot.setLink { shot.link with inFlight := some { key := 0x12, frame := .cue (.go 0x0C 9) } }

theorem witness_GoodArrivalIsCounted :
    shot.hears 3 ∧ config.hears 15 ∧ (after .rstnAssert shot).pins.rstn = false ∧
    (Instr.unknownKind 3).sender.isSome = true ∧ sending.link.inFlight.isSome = true ∧
    (Instr.restart { header with target := 3 } (.fields ()) 2).sender.isSome = true ∧
    ¬ sending.restartMeant { header with target := 3 } :=
  ⟨hears_shot, ⟨rfl, rfl, by decide⟩, by decide, by decide, by decide, by decide, fun h => absurd h.2.2 (by decide)⟩

theorem witness_ResetEvents : compacting.store.compacting = true ∧ playing.store.compacting = false := by decide

/-- The arrival that ends a window of 64, and the one before it. -/
theorem witness_ErrorWindow :
    let s := shot.setLink { shot.link with arrivals := 63 }
    s.pins.rstn = true ∧ s.link.inFlight = none ∧ s.start.record.isSome = true ∧
    s.record.windowSize ≤ min (s.link.arrivals + 1) 65535 ∧
    ¬ shot.record.windowSize ≤ min (shot.link.arrivals + 1) 65535 := by decide

theorem witness_OwnNumberIsAClash :
    (Instr.serviceReply 2).sender = some shot.own ∧ shot.pins.rstn = true ∧ shot.link.inFlight = none ∧
    shot.halt.station = .run ∧ (Instr.poolCompact { header with sender := 2 } .wrongLength).sender = some config.own ∧
    config.halt.station ≠ .run := by decide

theorem witness_Causes :
    causeMark ≠ 0 ∧ shot.halt.station = .run ∧ halting.halt.station = .halting ∧ halted.halt.station = .halted ∧
    config.halt.station = .config := by decide

theorem witness_EntryToHalting :
    seeking.next.state = .seeking ∧ loaded.next.state = .loaded ∧ shot.next.state = .empty ∧
    shot.store.recording = none ∧ recording.store.recording ≠ none := by decide

theorem witness_HaltFrameHalts :
    shot.hears 3 ∧ halting.hears 3 ∧ halted.hears 3 ∧ config.hears 3 ∧ 16 ≤ (16 : Byte).toNat ∧
    (15 : Byte) = stationByte 15 :=
  ⟨hears_shot, hears_halting, hears_halted, hears_config, by decide, by decide⟩

theorem witness_ResumeClearsAndReturns :
    halted.hears 3 ∧ halted.halt.station = .halted ∧ halted.port.error ≤ halted.record.feLimit ∧ shot.hears 3 ∧
    shot.halt.station ≠ .halted := ⟨hears_halted, by decide, by decide, hears_shot, by decide⟩

/-- The sources of an expiry in RUN, and the other station states in which the timer runs. -/
theorem witness_Expiries :
    shot.pins.rstn = true ∧ shot.halt.station = .run ∧ shot.running.state = .idle ∧ shot.next.state = .empty ∧
    seeking.halt.station = .run ∧ seeking.running.state = .idle ∧ seeking.next.state = .seeking ∧
    playing.halt.station = .run ∧ playing.running.state ≠ .idle ∧
    halting.pins.rstn = true ∧ halting.halt.station = .halting ∧
    halted.pins.rstn = true ∧ halted.halt.station = .halted := by decide

/-- A handover that raises nothing, with no record waiting or with one, before the end of the pass and at it. -/
theorem witness_RunningExpiries :
    playing.StoreSound ∧ playing.handsOverQuietly ∧ playing.passEnds = false ∧
    (playing.setPort { playing.port with pendingRecord := some sent, missRun := 3 }).handsOverQuietly :=
  ⟨⟨sound_twoFrames, by decide⟩, .inl rfl, by decide +kernel, .inr (by decide)⟩

theorem witness_HaltingComesToRest :
    (after .controlPeriodExpiry halting).blend.v = 0 ∧
    (after .controlPeriodExpiry (halting.setBlend { halting.blend with v := 2000001 })).blend.v ≠ 0 := by decide

theorem witness_LostDriveIsReported :
    let s := halted.setHalt { halted.halt with causes := causeMark ||| causeDriveLost }
    s.pins.rstn = true ∧ s.halt.station ≠ .config ∧ s.halt.causes &&& causeDriveLost = causeDriveLost ∧
    s.port.validSinceExpiry = false ∧ halted.halt.causes &&& causeDriveLost ≠ causeDriveLost := by decide

theorem witness_SetpointAndVelocity :
    let s := shot.setBlend { shot.blend with x := 6553600000, v := 8000000 }
    s.pins.rstn = true ∧ s.halt.station ≠ .config ∧ s.record.lo * 65536 ≤ s.blend.x ∧
    s.blend.x ≤ s.record.hi * 65536 ∧ s.record.guardFactor ≤ 256 ∧ s.blend.v.natAbs ≤ s.record.vmax := by decide

theorem witness_LimitStageClamps :
    let l := { brakingLimits with seekTarget := some 100, posLimit := true }
    l.posLimit = true ∧ brakingLimits.hi ≤ 6553600000 ∧ -3276800000 ≤ brakingLimits.lo ∧ (0 : Int) < l.hi ∧ l.lo < 0 ∧
    l.seekTarget = some 100 ∧ (71798 : Int) - l.amax ≤ l.allowedPos 6553600000 ∧
    -(l.allowedNeg 0 : Int) ≤ 0 + l.amax ∧ brakingLimits.posLimit = false ∧ brakingLimits.negLimit = false ∧
    -(brakingLimits.allowedNeg 0 : Int) ≤ 100 ∧ (100 : Int) ≤ brakingLimits.allowedPos 0 ∧
    (100 : Int).natAbs ≤ brakingLimits.amax ∧ brakingLimits.hi < 6553590000 + brakingLimits.velocity 6553590000 0 6553690000 ∧
    -3276790000 + brakingLimits.velocity (-3276790000) 0 (-3276890000) < brakingLimits.lo := by decide

theorem witness_PresetPosition :
    playable easeAndHold ∧ easeAndHold ≠ [] ∧ (easeAndHold.getLastD Keyframe.blank).time * 65536 ≤ 98304000 ∧
    easeAndHold[0].time * 65536 ≤ 0 ∧ 65535999 < easeAndHold[1].time * 65536 := by
  refine ⟨?_, by decide, by decide, by decide, by decide⟩
  simp only [playable]; decide

theorem witness_StickShaping :
    frozenRecord.deadband ≤ 8191 ∧ frozenRecord.expo ≤ 256 ∧ 0 < frozenRecord.expo ∧
    ({ frozenRecord with vstick := 0 } : StartRecord).vstick = 0 := by decide

/-- The cue with station 3 seen: a participant that plays it at a lower ability, or further back. -/
def accompanied (ability cueTime : Nat) : State :=
  let r : Report := { Report.unset with state := .run, controlPeriod := 2000, cueId := 9, cueState := .playing,
                                        cueTime := cueTime, ability := ability }
  let s := playing.writePeer 3 r
  s.setRunning { s.running with seen := 0x0008, cueTime := 6 * 65536, freshStart := false }

theorem witness_PaceIsGoverned :
    playing.running.state = .playing ∧ playing.running.freshStart = true ∧ playing.lost 3 = true ∧
    (accompanied 30000 6).participant 3 = true ∧ (accompanied 30000 6).leads = false ∧
    (accompanied 30000 6).cueExpiry.running.paceEff = 30000 ∧ (accompanied 30000 1).leads = true ∧
    (accompanied 30000 1).cueExpiry.running.paceEff = 0 ∧ (accompanied 30000 2).leads = false := by decide +kernel

/-- The seek at 20 au from the first position, at rest. -/
def arriving : State := seeking.setBlend { seeking.blend with x := 655360 - 20 * 65536 }

theorem witness_SeekCompletes :
    arriving.StoreSound ∧ arriving.seekCompletes = true ∧ arriving.port.pendingRecord = none ∧
    arriving.handsOverQuietly ∧ arriving.pins.rstn = true ∧ arriving.halt.station = .run ∧
    arriving.running.state = .idle ∧ arriving.next.state = .seeking ∧
    (after .controlPeriodExpiry arriving).next.state = .ready ∧
    (after .controlPeriodExpiry (arriving.setBlend { arriving.blend with v := -3000000 })).next.state = .seeking :=
  ⟨⟨sound_twoFrames, by decide⟩, by decide +kernel, rfl, .inl rfl, rfl, rfl, rfl, rfl, by decide +kernel,
   by decide +kernel⟩

/-- The cue one expiry before the end of its pass; `passes` are left, and NEXT is as given. -/
def ending (passes : Nat) (next : NextSlot) : State :=
  (playing.setRunning { playing.running with cueTime := 100 * 65536 - 1, freshStart := false, passesLeft := passes }).setNext
    next

theorem witness_PassEnds :
    (ending 1 NextSlot.empty).StoreSound ∧ (ending 1 loaded.next).StoreSound ∧ (ending 1 NextSlot.empty).passEnds = true ∧
    (ending 2 NextSlot.empty).passEnds = true ∧ (ending 1 loaded.next).passEnds = true ∧
    (ending 1 loaded.next).port.pendingRecord = none ∧
    loaded.next.state = .loaded ∧ loaded.next.condition = .follow :=
  ⟨⟨sound_twoFrames, by decide⟩, ⟨sound_twoFrames, by decide⟩, by decide +kernel, by decide +kernel, by decide +kernel,
   rfl, rfl, rfl⟩

/-- The waiting cue starts at the end of the pass with the participants of the cue that ended. -/
theorem test_followStarts :
    (after .passEnd (ending 1 loaded.next)).running.participants = 0x000C ∧
    (after .passEnd (ending 1 loaded.next)).running.freshStart = true ∧
    (after .passEnd (ending 1 loaded.next)).next = NextSlot.empty := by decide +kernel

theorem modeSound_download : download.ModeSound := by constructor <;> decide

theorem witness_SilentOwnersLapse :
    let s := shot.setStick { Stick.reset with owner := some 3, holdAge := 99, contest := 1 }
    s.pins.rstn = true ∧ s.halt.station ≠ .config ∧ s.stick.owner = some 3 ∧ s.stick.holdAge = 99 ∧
    s.stick.contest = 1 ∧ (after .controlPeriodExpiry s).stick.owner = none ∧
    (after .controlPeriodExpiry s).stick.contest = 0 := by decide

/-- The download one expiry before its lapse. -/
def lapsing : State :=
  download.setStore { download.store with download := some { owner := 3, preset := 1, nextIndex := 0, lapse := 1999 } }

theorem witness_DownloadLapses :
    lapsing.ModeSound ∧ (∃ d, lapsing.store.download = some d ∧ 2000 ≤ d.lapse + 1) ∧
    download.ModeSound ∧ (∃ d, download.store.download = some d ∧ d.lapse + 1 < 2000) :=
  ⟨by constructor <;> decide, ⟨_, rfl, by decide⟩, modeSound_download, _, rfl, by decide⟩

/-- The coupling source at 8 expiries of age once this one has come. -/
def coupledShot : State :=
  let s := shot.writePeer 6 { Report.unset with state := .run, controlPeriod := 2000, measured := 4000 }
  s.setPeers { s.peers with records := mapTable (fun r => { r with age := min r.age 7 }) s.peers.records }

theorem witness_PeerTableAtAnExpiry :
    shot.record.couplingSource = some 6 ∧ (after .controlPeriodExpiry shot).peers.coupling = some { value := 375000, blind := true } ∧
    (after .controlPeriodExpiry coupledShot).peers.coupling = some { value := 500000, blind := false } := by decide +kernel

theorem witness_ConfigExchange : config.pins.rstn = true ∧ config.halt.station = .config ∧ shot.halt.station ≠ .config := by
  decide

theorem witness_StickFrameIsTaken :
    shot.hears 3 ∧ shot.halt.station ≠ .config ∧ shot.stick.owner = none ∧
    selectChannel shot.own [{ channel with target := 3 }] = none ∧ selectChannel shot.own [channel] = some channel ∧
    channel.flags.getLsbD 0 = false ∧ ({ channel with flags := 1 } : Channel).flags.getLsbD 0 = true ∧
    shot.record.takeThreshold < (max (BitVec.toInt (0x8000 : Half)) (-32767)).natAbs ∧
    (after (.stick 3 40 [channel]) shot).stick.owner = some 3 := by
  refine ⟨hears_shot, ?_⟩; decide

theorem witness_CueFrameMisses :
    shot.hears 3 ∧ (0x0008 : StationMask).getLsbD shot.own.val = false ∧ config.hears 3 ∧
    (0x0004 : StationMask).getLsbD config.own.val = true ∧ config.halt.station = .config :=
  ⟨hears_shot, by decide, hears_config, by decide, by decide⟩

theorem witness_LoadAndSeek :
    shot.cued 3 0x04 ∧ (0 : Byte) = presetByte 0 ∧ (1 : Byte) = startConditionCode .follow ∧
    shot.halt.station ≠ .config ∧ shot.store.compacting = false ∧ (shot.store.entry 0).state = .ready ∧
    (shot.store.entry 31).state ≠ .ready ∧ loaded.cued 3 0x04 ∧ loaded.halt.station = .run ∧
    loaded.running.state = .idle ∧ loaded.next.cueId = 9 ∧ loaded.next.state = .loaded ∧ seeking.cued 3 0x04 ∧
    seeking.next.state = .seeking := by
  refine ⟨cued_shot, by decide, by decide, by decide, by decide, by decide, by decide, cued_loaded, ?_, ?_, ?_, ?_,
    cued_seeking, ?_⟩ <;> decide

theorem witness_GoStartsTheCue :
    loaded.cued 3 0x04 ∧ loaded.halt.station = .run ∧ loaded.next.state ≠ .empty ∧ loaded.next.cueId = 9 ∧
    shot.cued 3 0x04 ∧ shot.next.state = .empty := ⟨cued_loaded, by decide, by decide, by decide, cued_shot, by decide⟩

theorem witness_RunningCueFrames :
    playing.cued 3 0x04 ∧ playing.halt.station = .run ∧ playing.running.state ≠ .idle ∧ playing.running.cueId = 9 ∧
    shot.cued 3 0x04 ∧ shot.running.state = .idle := ⟨cued_playing, by decide, by decide, by decide, cued_shot, by decide⟩

/-- The shot with two indices of the pool left, or one. -/
def nearlyFull (hwm : Nat) : State := shot.setStore { twoFrames with hwm := hwm }

theorem witness_RecordingStarts :
    (nearlyFull 1022).cued 3 0x04 ∧ (1 : Byte) = presetByte 1 ∧ (nearlyFull 1022).halt.station = .run ∧
    (nearlyFull 1022).store.download = none ∧ (nearlyFull 1022).store.recording = none ∧
    (nearlyFull 1022).store.compacting = false ∧ (nearlyFull 1022).referenced 1 = false ∧
    (nearlyFull 1022).store.hwm + 2 ≤ 1024 ∧ (nearlyFull 1023).cued 3 0x04 ∧ 1024 < (nearlyFull 1023).store.hwm + 2 ∧
    loaded.referenced 0 = true := by
  refine ⟨⟨⟨rfl, rfl, by decide⟩, by decide⟩, ?_, ?_, ?_, ?_, ?_, ?_, ?_, ⟨⟨rfl, rfl, by decide⟩, by decide⟩, ?_, ?_⟩ <;>
    decide

/-- A recording of two keyframes, the second captured at 10 of `elapsed` periods. -/
def captured (elapsed : Nat) : State :=
  (recording.capture { preset := 1, interval := 10, elapsed := 10, lastCapture := 0 } 10).setStore
    { (recording.capture { preset := 1, interval := 10, elapsed := 10, lastCapture := 0 } 10).store with
      recording := some { preset := 1, interval := 10, elapsed := elapsed, lastCapture := 10 } }

theorem witness_RecordingAtAnExpiry :
    recording.ModeSound ∧ recording.pins.rstn = true ∧ recording.store.recording.isSome = true ∧
    recording.handsOverQuietly :=
  ⟨by constructor <;> decide, rfl, rfl, .inl rfl⟩

theorem witness_RecordingCapturesAndStops :
    recording.cued 3 0x04 ∧ recording.store.recording ≠ none ∧ (recording.store.entry 1).count = 1 ∧
    ((captured 10).store.entry 1).count = 2 ∧ (captured 10).store.hwm < 1024 ∧ (9 + 1) % 10 = 0 ∧
    (captured 16777215).store.recording =
      some { preset := 1, interval := 10, elapsed := 16777215, lastCapture := 10 } :=
  ⟨cued_recording, by decide, by decide, by decide, by decide, by decide, by decide⟩

def rawReport : RawReport :=
  { axisKind := 2, state := 2, epoch := 7, causes := 4, measured := 0, velocity := 0, flags := 0, controlPeriod := 500,
    cueId := 255, cueState := 0, cueTime := 0, ability := 65536, stickOwner := 255, nextId := 255, nextState := 0 }

theorem witness_StateReportIsWritten :
    shot.hears 3 ∧ config.hears 3 ∧ halting.hears 3 ∧ reportOf { rawReport with controlPeriod := 499 } = none ∧
    reportOf { rawReport with ability := 65537 } = none ∧ (reportOf rawReport).isSome = true ∧
    (∀ r, reportOf rawReport = some r → r.state = .halting ∧ r.epoch = shot.halt.epoch) ∧
    shot.trigger.watched ≠ 3 :=
  ⟨hears_shot, hears_config, hears_halting, by decide, by decide, by decide, by rintro r ⟨⟩; decide, by decide⟩

/-- Every field of a report that can lie out of range, just past its range; and the bounds themselves within. -/
theorem test_reportRanges :
    reportOf { rawReport with axisKind := 8 } = none ∧ reportOf { rawReport with state := 4 } = none ∧
    reportOf { rawReport with cueState := 3 } = none ∧ reportOf { rawReport with nextState := 4 } = none ∧
    reportOf { rawReport with stickOwner := 16 } = none ∧ reportOf { rawReport with controlPeriod := 4001 } = none ∧
    (reportOf { rawReport with controlPeriod := 0, axisKind := 255, stickOwner := 255 }).isSome = true ∧
    (reportOf { rawReport with controlPeriod := 4000, ability := 65536, stickOwner := 15 }).isSome = true := by decide

/-- A trigger about to fire at station 3's report: told after the halt check it is disarmed first, told before it fires. -/
theorem witness_WatchedReport :
    let s := shot.setTrigger { state := .armed, watched := 3, sense := .falling, threshold := 5, hysteresis := 0, cueId := 40,
                               mask := 0x26 }
    s.hears 3 ∧ s.trigger.watched = 3 ∧ (after (.state 3 rawReport true) s).link.cueList = [] ∧
    (after (.state 3 rawReport false) s).link.cueList = [.go 0x26 40] ∧
    (after (.state 3 rawReport false) s).trigger.state = .disarmed ∧
    (after (.state 3 { rawReport with state := 1 } true) s).link.cueList = [.go 0x26 40] ∧
    (after (.state 3 { rawReport with state := 1 } true) s).halt = s.halt := by
  refine ⟨⟨rfl, rfl, by decide⟩, ?_⟩
  decide

theorem witness_TriggerArmsAndFires :
    shot.halt.station = .run ∧ StationState.run ≠ .config ∧
    (shot.setTrigger { Trigger.reset with state := .arming }).trigger.state = .arming ∧ shot.link.cueList.length < 4 ∧
    shot.serves header ∧ config.serves header ∧ (15 : Byte) = stationByte 15 ∧ (1 : Byte) = senseCode .falling ∧
    config.halt.station = .config ∧ 16 ≤ (16 : Byte).toNat ∧ 2 ≤ (2 : Byte).toNat :=
  ⟨by decide, by decide, by decide, by decide, serves_shot, serves_config, by decide, by decide, by decide, by decide,
   by decide⟩

theorem witness_MarkFiring :
    let s := after (.markSample 0b1100) openSwitches
    let e := s.setStart { s.start with record := some { frozenRecord with markMode := .event, markAction := .halt } }
    openSwitches.pins.rstn = true ∧ openSwitches.markFires 0b1100 = false ∧ s.markFires 0b1100 = true ∧
    s.record.markMode = .pattern ∧ s.halt.station = .run ∧ s.record.markAction = .go ∧ s.next.state ≠ .empty ∧
    e.record.markMode = .event ∧ e.markFires 0b1110 = true ∧ e.record.markAction = .halt := by decide

theorem witness_HandoverAndDriveReady :
    let waiting := after .controlPeriodExpiry (after .drdyFall shot)
    shot.port.inFlight = none ∧ shot.pins.drdy = true ∧ (exchanging shot).port.inFlight.isSome = true ∧
    waiting.pins.rstn = true ∧ waiting.port.pendingRecord.isSome = true ∧ waiting.port.inFlight = none ∧
    min (2 + 1) 255 = 3 := by decide

/-- The state with a record waiting and two exchanges missed in a row. -/
def twiceMissed (s : State) : State := s.setPort { s.port with pendingRecord := some sent, missRun := 2 }

/-- The third miss in each station state: a local fault in RUN, latched in HALTING and HALTED, nothing in CONFIG. -/
theorem witness_ThirdMiss :
    (twiceMissed shot).pins.rstn = true ∧ (twiceMissed halting).pins.rstn = true ∧
    (twiceMissed halted).pins.rstn = true ∧ (twiceMissed config).pins.rstn = true ∧
    (after .controlPeriodExpiry (twiceMissed shot)).halt.station = .halting ∧
    (after .controlPeriodExpiry (twiceMissed halting)).halt.causes = causeMark ||| causeDriveLost ∧
    (after .controlPeriodExpiry (twiceMissed halted)).halt.causes = causeMark ||| causeDriveLost ∧
    (after .controlPeriodExpiry (twiceMissed halted)).link.haltSlot = halted.link.haltSlot ∧
    (after .configExchangeInterval (twiceMissed config)).halt = config.halt ∧
    (after .configExchangeInterval (twiceMissed config)).port.missRun = 3 := by decide +kernel

theorem witness_Feedback :
    (exchanging shot).pins.rstn = true ∧ (exchanging shot).port.inFlight = some sent ∧
    (exchanging shot).halt.station ≠ .config ∧ 1 ≤ (exchanging shot).record.feCount ∧
    (exchanging config).pins.rstn = true ∧ (exchanging config).port.inFlight = some sent ∧
    (exchanging config).halt.station = .config ∧ config.start.record = none ∧
    (0x00 : Byte) ≠ 0x5A ∧ (0x00 : Byte) ≠ 0xA5 ∧ (5 : Byte) = sent.sequence ∧ (6 : Byte) ≠ sent.sequence := by decide

/-- The trigger of station 2 armed on its own position: it fires on the feedback, and not where the feedback halts. -/
theorem witness_SelfWatchingTrigger :
    let k : Trigger := { state := .armed, watched := 2, sense := .rising, threshold := 50, hysteresis := 0, cueId := 40,
                         mask := 0x26 }
    let s := (exchanging shot).setTrigger k
    let c := (exchanging (config.setStart shot.start)).setTrigger k
    s.trigger.watched = s.own ∧ shot.trigger.watched ≠ shot.own ∧ c.trigger.watched = c.own ∧ c.halt.station = .config ∧
    c.halt.causes &&& causeNumberClash ≠ causeNumberClash ∧ 1 ≤ s.record.feCount ∧
    (after (.exchangeComplete { echo := 5, measured := 100, status := 0x5A, limits := 0 }) s).link.cueList =
      [.go 0x26 40] ∧
    (after (.exchangeComplete { echo := 5, measured := 100, status := 0x5A, limits := 1 }) s).link.cueList = [] ∧
    (after (.exchangeComplete { echo := 5, measured := 100, status := 0x5A, limits := 0 }) c).link.cueList =
      [.go 0x26 40] := by decide

theorem witness_FeedbackRaises :
    shot.feedbackRaises sent { echo := 5, measured := 100, status := 0x5A, limits := 0 } = 0 ∧
    shot.feedbackRaises sent { echo := 5, measured := 100, status := 0xA5, limits := 1 } =
      causeDriveFault ||| causeLimitSwitch ∧
    (shot.setPort { shot.port with followingRun := 2 }).feedbackRaises sent
      { echo := 5, measured := -101, status := 0x5A, limits := 0 } = causeFollowing := by decide

theorem witness_Contention :
    let s := shot.placeCue (.go 0x0C 40)
    s.pins.rstn = true ∧ s.link.inFlight = none ∧ s.link.haltSlot = none ∧ s.link.cueList = [.go 0x0C 40] ∧
    shot.link.offer = none ∧ (after (.contentionWindow .opening) s).link.offer = some { part := .cue, key := 0x12 } ∧
    (after (.contentionWindow (.slot none)) (after (.contentionWindow .opening) s)).link.inFlight =
      some { key := 0x12, frame := .cue (.go 0x0C 40) } ∧
    halting.link.haltSlot.isSome = true := by decide

theorem witness_TransmissionCompletes :
    let s := loaded.setLink { loaded.link with inFlight := some { key := 0x12, frame := .cue (.go 0x0C 9) } }
    s.link.inFlight = some { key := 0x12, frame := .cue (.go 0x0C 9) } ∧
    (0x000C : StationMask).getLsbD s.own.val = true ∧ s.halt.station = .run ∧ s.next.state ≠ .empty ∧
    s.next.cueId = 9 := by decide

theorem witness_RequestPath :
    shot.hears header.sender ∧ (3 : Byte) ≠ stationByte shot.own ∧ header.target = stationByte shot.own ∧
    (shot.withReply header 1 .done []).hears header.sender ∧
    (shot.withReply header 1 .done []).link.replySlot.isSome = true ∧ shot.serves header ∧
    (∀ kind, (Instr.unknownRequestKind header kind).header = some header) ∧
    (Instr.keyframeWrite { header with target := 3 } .wrongLength).header = some { header with target := 3 } ∧
    ({ header with target := 3 } : ReqHeader).target ≠ stationByte shot.own :=
  ⟨hears_shot, by decide, by decide, ⟨rfl, rfl, by decide⟩, rfl, serves_shot, fun _ => rfl, rfl, by decide⟩

theorem witness_ReadingRequests :
    shot.serves header ∧ shot.store.compacting = false ∧ (shot.store.entry 0).state ≠ .empty ∧
    (1 : Half).toNat < (shot.store.entry 0).count ∧ (shot.store.entry 0).count ≤ (2 : Half).toNat ∧
    (1023 : Half).toNat ≤ 1023 ∧ 1023 < (1024 : Half).toNat ∧ compacting.serves header ∧
    compacting.store.compacting = true ∧ 32 ≤ (32 : Byte).toNat ∧ 2 ≤ (2 : Byte).toNat :=
  ⟨serves_shot, by decide, by decide, by decide, by decide, by decide, by decide, serves_compacting, by decide, by decide,
   by decide⟩

def rawSection1 : RawSection1 :=
  { axisKind := 1, controlPeriod := 2000, vmax := 8000000, amax := 1000000, aHalt := 2000000, lo := -50000, hi := 100000,
    startWindow := 20, catchStep := 512, vseek := 1000000, vstick := 6553600, deadband := 1000, expo := 128,
    takeThreshold := 4000 }

def rawSection2 : RawSection2 :=
  { feLimit := 200, feCount := 3, guardFactor := 192, windowSize := 64, badThreshold := 4, couplingSource := 6, r0 := 2000,
    k := 3000000000, lmax := 6000, markMode := 2, markMask := 0x0C, markPattern := 0, markAction := 0, goMask := 0x26 }

/-- Good sections, and the lowest failing field where lo is not below hi or the coupling source is the own station. -/
theorem witness_StartRecordSections :
    config.serves header ∧ config.halt.station = .config ∧ config.start.record = none ∧ shot.serves header ∧
    shot.start.record.isSome = true ∧ staged.serves header ∧ staged.start.staged = some section1 ∧
    section1Of rawSection1 = section1 ∧ section2Of rawSection2 = section2 ∧
    (∀ c ∈ section1Checks rawSection1, c.2 = true) ∧ (∀ c ∈ section2Checks 2 rawSection2, c.2 = true) ∧
    firstFailing (section1Checks { rawSection1 with hi := -50000, expo := 257 }) = some 7 ∧
    firstFailing (section2Checks 6 rawSection2) = some 20 := by
  refine ⟨serves_config, by decide, by decide, serves_shot, by decide, serves_staged, by decide, ?_, ?_, ?_, ?_, ?_, ?_⟩ <;>
    decide

theorem witness_Restart :
    compacting.serves header ∧ compacting.store.compacting = true ∧ playing.serves header ∧
    playing.store.compacting = false ∧ playing.halt.station = .run ∧ playing.running.state ≠ .idle ∧ shot.serves header ∧
    shot.running.state = .idle ∧ shot.store.download = none ∧ shot.store.recording = none ∧
    shot.restartMeant header ∧ sending.restartMeant header ∧ sending.link.replySlot = none ∧
    (shot.withReply header 1 .done []).restartMeant header ∧
    (shot.withReply header 1 .done []).link.replySlot.isSome = true ∧ compacting.restartMeant header ∧
    playing.restartMeant header :=
  ⟨serves_compacting, by decide, ⟨⟨rfl, rfl, by decide⟩, rfl, rfl⟩, by decide, by decide, by decide, serves_shot, by decide,
   by decide, by decide, ⟨rfl, by decide, rfl⟩, ⟨rfl, by decide, rfl⟩, rfl, ⟨rfl, by decide, rfl⟩, rfl,
   ⟨rfl, by decide, rfl⟩, ⟨rfl, by decide, rfl⟩⟩

theorem witness_RangesAreFreed :
    twoFrames.Sound ∧ (twoFrames.entry 0).state = .ready ∧ (twoFrames.entry 0).first + (twoFrames.entry 0).count = twoFrames.hwm ∧
    (∃ k ∈ twoFrames.keyframes 0, k.position < 0 ∨ 59 < k.position) ∧
    (∀ k ∈ twoFrames.keyframes 0, 10 ≤ k.position ∧ k.position ≤ 60) :=
  ⟨sound_twoFrames, by decide, by decide, by decide, by decide⟩

def rawModeBlock : RawModeBlock :=
  { mode := 2, trimRange := 2147483647, fadeStep := 4096, handbackDelay := 65535, passes := 1, cycle := 1 }

theorem witness_PresetOpen :
    shot.serves header ∧ (31 : Byte) = presetByte 31 ∧ (modeFieldsOf rawModeBlock).isSome = true ∧
    modeFieldsOf { rawModeBlock with fadeStep := 4097 } = none ∧ 2 ≤ (1022 : Half).toNat ∧ (1022 : Half).toNat ≤ 1024 ∧
    shot.start.record.isSome = true ∧ shot.referenced 31 = false ∧ shot.store.hwm + (1022 : Half).toNat ≤ 1024 ∧
    1024 < shot.store.hwm + (1023 : Half).toNat ∧ download.serves header ∧ download.store.download.isSome = true ∧
    config.serves header ∧ config.start.record = none ∧ loaded.referenced 0 = true :=
  ⟨serves_shot, by decide, by decide, by decide, by decide, by decide, by decide, by decide, by decide, by decide,
   serves_download, by decide, serves_config, by decide, by decide⟩

theorem witness_KeyframeWrite :
    download.serves header ∧ (1 : Byte) = presetByte 1 ∧ (∀ k ∈ List.replicate 2 rawKeyframe, k.shape.toNat < 3) ∧
    (∃ d, download.store.download = some d ∧ d.preset = 1 ∧ d.owner = header.sender ∧ (0 : Half).toNat = d.nextIndex) ∧
    (0 : Half).toNat + 2 ≤ (download.store.entry 1).count ∧ (download.store.entry 1).count < (0 : Half).toNat + 3 ∧
    shot.serves header ∧ shot.store.download = none :=
  ⟨serves_download, by decide, by decide, ⟨_, rfl, by decide, by decide, by decide⟩, by decide, by decide, serves_shot,
   by decide⟩

/-- The download of preset 1 with both its keyframes written: times 0 and `time`, the second at `position`. -/
def written (time : Nat) (position : Int) : State :=
  download.setStore { download.store with
    pool := download.store.pool.writeAll 2
      [{ time := 0, position := 5, shape := .linear }, { time := time, position := position, shape := .linear }]
    download := some { owner := 3, preset := 1, nextIndex := 2, lapse := 0 } }

theorem witness_PresetClose :
    (written 50 6).serves header ∧ (1 : Byte) = presetByte 1 ∧
    (∃ d, (written 50 6).store.download = some d ∧ d.preset = 1 ∧ d.owner = header.sender ∧
      d.nextIndex = ((written 50 6).store.entry 1).count) ∧
    closeFailure (-50000) 100000 2 2 ((written 50 100000).store.keyframes 1) = none ∧
    closeFailure (-50000) 100000 2 2 ((written 0 6).store.keyframes 1) = some (3, 1) ∧
    closeFailure (-50000) 100000 2 2 ((written 50 100001).store.keyframes 1) = some (4, 1) ∧
    closeFailure (-50000) 100000 2 1 ((written 50 6).store.keyframes 1) = some (1, 1) :=
  ⟨⟨⟨rfl, rfl, by decide⟩, rfl, rfl⟩, by decide, ⟨_, rfl, by decide, by decide, by decide⟩, by decide, by decide, by decide,
   by decide⟩

theorem witness_EraseAndEdit :
    shot.serves header ∧ (0 : Byte) = presetByte 0 ∧ (modeFieldsOf rawModeBlock).isSome = true ∧
    shot.store.compacting = false ∧ shot.referenced 0 = false ∧ (shot.store.entry 0).state = .ready ∧
    (shot.store.entry 1).state = .empty ∧ (download.store.entry 1).state = .loading ∧ compacting.serves header ∧
    loaded.referenced 0 = true :=
  ⟨serves_shot, by decide, by decide, by decide, by decide, by decide, by decide, by decide, serves_compacting, by decide⟩

theorem witness_Compaction :
    shot.serves header ∧ shot.next.state = .empty ∧ shot.running.state = .idle ∧ shot.store.download = none ∧
    shot.store.recording = none ∧ shot.store.compacting = false ∧ loaded.next.state ≠ .empty ∧
    compacting.StoreSound ∧ compacting.pins.rstn = true ∧ compacting.store.compacting = true ∧
    compacting.store.rangeCheckDue = false := by
  refine ⟨serves_shot, by decide, by decide, by decide, by decide, by decide, by decide, ⟨?_, by decide⟩, rfl, rfl, rfl⟩
  constructor <;> first | decide | (simp only [DirEntry.apart]; decide)

/-- The halt record present and absent, and an entry of each state in the directory. -/
theorem witness_ReportFieldsAndStatusLayout :
    halting.halt.record = some { origin := 2, entryCauses := causeMark, originCauses := causeMark, entryEpoch := 7 } ∧
    shot.halt.record = none ∧ u8 halting.ownStatus 3 = 2 ∧ u8 halting.ownStatus 6 = 7 ∧ u8 shot.ownStatus 3 = 255 ∧
    shot.start.record = some frozenRecord ∧ config.start.record = none ∧ shot.peers.coupling = none ∧
    (download.store.entry 1).state = .loading ∧ download.store.download.isSome = true ∧
    (recording.store.entry 1).state = .recording ∧ recording.store.recording.isSome = true ∧
    (shot.store.entry 0).state = .ready ∧ (shot.store.entry 1).state = .empty ∧ shot.mark.latched = none := by decide

end Sys2Proof.Tests
end

/-! SUPPORT. The preset store's requests: what each one that reaches its owner answers, and how its operands are read
(R1, R5, R8, R172, R187). -/

namespace Sys2Proof.Machine

variable {s : State} {h : ReqHeader}

/-! A request of the store that reaches its owner answers what the owner decides on the counted state (R172). -/

theorem exec_ident (hs : s.serves h) :
    exec (.ident h (.fields ())) s = .next ((identAnswer s.heard).reply h 0x01) :=
  congrArg Host.Outcome.next (State.request_served hs)

theorem exec_statusRead (hs : s.serves h) (named : Option Byte) :
    exec (.statusRead h (.fields named)) s = .next ((statusAnswer named s.heard).reply h 0x04) :=
  congrArg Host.Outcome.next (State.request_served hs)

theorem exec_statusReadPeer (hs : s.serves h) (n : Station) :
    exec (.statusReadPeer h n) s = .next ((statusAnswer (some (stationByte n)) s.heard).reply h 0x04) :=
  congrArg Host.Outcome.next (State.request_served hs)

theorem exec_countersRead (hs : s.serves h) (b : Byte) :
    exec (.countersRead h (.fields b)) s = .next ((countersAnswer b s.heard).reply h 0x05) :=
  congrArg Host.Outcome.next (State.request_served hs)

theorem exec_presetOpen (hs : s.serves h) (a : OpenArgs) :
    exec (.presetOpen h (.fields a)) s = .next ((openAnswer h.sender a s.heard).reply h 0x10) :=
  congrArg Host.Outcome.next (State.request_served hs)

theorem exec_keyframeWrite (hs : s.serves h) (a : WriteArgs) :
    exec (.keyframeWrite h (.fields a)) s = .next ((writeAnswer h.sender a s.heard).reply h 0x11) :=
  congrArg Host.Outcome.next (State.request_served hs)

theorem exec_presetClose (hs : s.serves h) (b : Byte) :
    exec (.presetClose h (.fields b)) s = .next ((closeAnswer h.sender b s.heard).reply h 0x12) :=
  congrArg Host.Outcome.next (State.request_served hs)

theorem exec_presetErase (hs : s.serves h) (b : Byte) :
    exec (.presetErase h (.fields b)) s = .next ((eraseAnswer b s.heard).reply h 0x13) :=
  congrArg Host.Outcome.next (State.request_served hs)

theorem exec_presetEdit (hs : s.serves h) (a : EditArgs) :
    exec (.presetEdit h (.fields a)) s = .next ((editAnswer a s.heard).reply h 0x14) :=
  congrArg Host.Outcome.next (State.request_served hs)

theorem exec_directoryRead (hs : s.serves h) (b : Byte) :
    exec (.directoryRead h (.fields b)) s = .next ((directoryAnswer b s.heard).reply h 0x15) :=
  congrArg Host.Outcome.next (State.request_served hs)

theorem exec_keyframeRead (hs : s.serves h) (a : ReadArgs) :
    exec (.keyframeRead h (.fields a)) s = .next ((readAnswer a s.heard).reply h 0x16) :=
  congrArg Host.Outcome.next (State.request_served hs)

theorem exec_poolCompact (hs : s.serves h) :
    exec (.poolCompact h (.fields ())) s = .next ((compactAnswer s.heard).reply h 0x17) :=
  congrArg Host.Outcome.next (State.request_served hs)

/-- A cue frame that acts at this station acts on the counted state (R29). -/
theorem State.arrive_cued {n : Station} {m : StationMask} {act : State → State} (hc : s.cued n m) :
    s.arrive n (State.inMask m act) = act s.heard := by
  rw [State.arrive_heard hc.1, State.inMask, State.heard_own, if_pos hc.2]

theorem exec_recStart {n : Station} {m : StationMask} (hc : s.cued n m) (preset interval : Byte) :
    exec (.recStart n m preset interval) s = .next (s.heard.actRecStart preset interval) :=
  congrArg Host.Outcome.next (State.arrive_cued hc)

theorem exec_recStop {n : Station} {m : StationMask} (hc : s.cued n m) :
    exec (.recStop n m) s = .next s.heard.actRecStop :=
  congrArg Host.Outcome.next (State.arrive_cued hc)

@[simp] theorem State.heard_referenced (p : Preset) : s.heard.referenced p = s.referenced p := rfl

/-! The operands of the store's requests (R1, R5, R8, R187). -/

theorem presetOf_outOfRange {b : Byte} (hb : 32 ≤ b.toNat) : presetOf b = none := dif_neg (by omega)

theorem stationOf_outOfRange {b : Byte} (hb : 16 ≤ b.toNat) : stationOf b = none := dif_neg (by omega)

theorem modeCode_of_modeOf {b : Byte} {m : Mode} (hm : modeOf b = some m) : modeCode m = b := by
  revert m b; decide

theorem switchCode_of_switchOf {b : Byte} {v : Bool} (hv : switchOf b = some v) : switchCode v = b := by
  revert v b; decide

theorem shapeCode_of_shapeOf {b : Byte} {v : Shape} (hv : shapeOf b = some v) : shapeCode v = b := by
  revert v b; decide

theorem modeOf_eq_none (b : Byte) : modeOf b = none ↔ 3 ≤ b.toNat := by
  rw [← Option.not_isSome_iff_eq_none, modeOf_isSome, Nat.not_lt]

theorem switchOf_eq_none (b : Byte) : switchOf b = none ↔ 2 ≤ b.toNat := by
  rw [← Option.not_isSome_iff_eq_none, switchOf_isSome, Nat.not_lt]

/-- A mode block in range is read field by field (R5). -/
theorem modeFieldsOf_fields {b : RawModeBlock} {f : ModeFields} (hf : modeFieldsOf b = some f) :
    modeCode f.mode = b.mode ∧ f.trimRange = b.trimRange.toNat ∧ f.fadeStep = b.fadeStep.toNat ∧
      f.handbackDelay = b.handbackDelay.toNat ∧ f.passes = b.passes.toNat ∧ switchCode f.cycle = b.cycle := by
  unfold modeFieldsOf at hf
  split at hf
  · rename_i m c hm hc
    split at hf
    · cases hf
      exact ⟨modeCode_of_modeOf hm, rfl, rfl, rfl, rfl, switchCode_of_switchOf hc⟩
    · cases hf
  · cases hf

theorem modeFieldsOf_eq_none (b : RawModeBlock) :
    modeFieldsOf b = none ↔ 3 ≤ b.mode.toNat ∨ 2147483647 < b.trimRange.toNat ∨ b.fadeStep.toNat = 0 ∨
      4096 < b.fadeStep.toNat ∨ b.passes.toNat = 0 ∨ 2 ≤ b.cycle.toNat := by
  rw [← modeOf_eq_none, ← switchOf_eq_none]
  unfold modeFieldsOf
  split
  · rename_i m c hm hc
    rw [hm, hc]
    split <;> simp <;> omega
  · rename_i hno
    simp only [true_iff]
    cases hm : modeOf b.mode with
    | none => exact .inl rfl
    | some m =>
      cases hc : switchOf b.cycle with
      | none => simp
      | some c => exact absurd hc (hno m c hm)

theorem keyframeOf_isSome (r : RawKeyframe) : (keyframeOf r).isSome = true ↔ r.shape.toNat < 3 := by
  rw [keyframeOf, Option.isSome_map, shapeOf_isSome]

/-- A carried keyframe is read field by field (R1, R8). -/
theorem keyframeOf_fields {r : RawKeyframe} {k : Keyframe} (hk : keyframeOf r = some k) :
    k.time = r.time.toNat ∧ k.position = r.position.toInt ∧ shapeCode k.shape = r.shape := by
  obtain ⟨sh, hsh, rfl⟩ := Option.map_eq_some_iff.mp hk
  exact ⟨rfl, rfl, shapeCode_of_shapeOf hsh⟩

/-- The carried keyframes are read where every shape is known (R8). -/
theorem keyframesOf_isSome (rs : List RawKeyframe) :
    (keyframesOf rs).isSome = true ↔ ∀ r ∈ rs, r.shape.toNat < 3 := by
  induction rs with
  | nil => simp [keyframesOf]
  | cons r rs ih =>
    rw [List.forall_mem_cons, ← ih, ← keyframeOf_isSome, keyframesOf]
    cases keyframeOf r <;> cases keyframesOf rs <;> simp

/-- The carried keyframes are read one by one, in order (R8). -/
theorem keyframesOf_forall₂ {rs : List RawKeyframe} : ∀ {ks : List Keyframe}, keyframesOf rs = some ks →
    List.Forall₂ (fun r k => keyframeOf r = some k) rs ks := by
  induction rs with
  | nil => rintro ks hks; cases hks; exact .nil
  | cons r rs ih =>
    intro ks hks
    unfold keyframesOf at hks
    split at hks
    · rename_i k' ks' hk hrest
      cases hks
      exact .cons hk (ih hrest)
    · cases hks

end Sys2Proof.Machine

/-! SUPPORT. The table of each request that opens, erases, edits or reads a preset (R5, R7, R16 to R19), and the reads of
the status and the counters (R110, R142, R175, R186). -/

namespace Sys2Proof.Machine

variable {s : State} {st : Store}

/-! What a new range finds: the old content of a READY preset freed, every other entry kept (R7, R12). -/

theorem Store.freeIfReady_eq (p : Preset) :
    st.freeIfReady p = if (st.entry p).state = .ready then st.free p else st := rfl

theorem Store.freeIfReady_entry {p q : Preset} (hq : q ≠ p) : (st.freeIfReady p).entry q = st.entry q := by
  rw [Store.freeIfReady_eq]
  split
  · rw [Store.free_entry, if_neg hq]
  · rfl

@[simp] theorem Store.freeIfReady_download (p : Preset) : (st.freeIfReady p).download = st.download := by
  rw [Store.freeIfReady_eq]
  split <;> rfl

@[simp] theorem Store.freeIfReady_recording (p : Preset) : (st.freeIfReady p).recording = st.recording := by
  rw [Store.freeIfReady_eq]
  split <;> rfl

@[simp] theorem Store.freeIfReady_compacting (p : Preset) : (st.freeIfReady p).compacting = st.compacting := by
  rw [Store.freeIfReady_eq]
  split <;> rfl

/-! PRESET_OPEN (R7). -/

theorem openAnswer_outOfRange {n : Station} {a : OpenArgs}
    (hbad : 32 ≤ a.preset.toNat ∨ a.count.toNat < 2 ∨ 1024 < a.count.toNat ∨ modeFieldsOf a.fields = none) :
    openAnswer n a s = s.answer .badRequest := by
  unfold openAnswer
  split
  · rename_i p f hp hf
    refine if_pos ?_
    rcases hbad with hbad | hbad | hbad | hbad
    · simp [presetOf_outOfRange hbad] at hp
    · omega
    · omega
    · simp [hbad] at hf
  · rfl

/-- With its operands in range PRESET_OPEN takes the later checks of its table in order. -/
theorem openAnswer_inRange {n : Station} {a : OpenArgs} {p : Preset} {f : ModeFields} (hp : a.preset = presetByte p)
    (hf : modeFieldsOf a.fields = some f) (hlow : 2 ≤ a.count.toNat) (hhigh : a.count.toNat ≤ 1024) :
    openAnswer n a s =
      if s.start.record = none then s.answer .wrongState
      else if s.store.download.isSome = true ∨ s.store.recording.isSome = true ∨ s.store.compacting = true then
        s.answer .busy
      else if s.referenced p = true then s.answer .inUse
      else if 1024 < s.store.hwm + a.count.toNat then s.answer .full
      else (s.setStore (s.store.openDownload n p a.count.toNat f)).done
        (nat16 ((s.store.openDownload n p a.count.toNat f).entry p).first) := by
  simp [openAnswer, hp, hf, hlow, hhigh, State.frozen]

theorem Store.openDownload_entry (n : Station) (p q : Preset) (k : Nat) (f : ModeFields) :
    (st.openDownload n p k f).entry q =
      if q = p then { state := .loading, first := (st.freeIfReady p).hwm, count := k, fields := f, truncated := false }
      else st.entry q := by
  refine (Store.entry_of_set rfl).trans ?_
  split
  · rfl
  · rename_i hq
    exact Store.freeIfReady_entry hq

/-- Settles O55, by the table of PRESET_OPEN and by the ranges of the mode block. -/
theorem presetOpenReservesARange : Obligations.PresetOpenReservesARange := by
  refine ⟨fun h a s hs => ?_, fun b => ⟨modeFieldsOf_eq_none b, fun f => modeFieldsOf_fields⟩⟩
  rw [exec_presetOpen hs]
  refine ⟨fun hbad => by rw [openAnswer_outOfRange hbad]; rfl, fun p f hp hf hlow hhigh => ?_⟩
  rw [openAnswer_inRange hp hf hlow hhigh]
  refine ⟨fun hfrozen => by simp [hfrozen], fun hfrozen htaken => ?_, fun hfrozen htaken href => ?_,
    fun hfrozen htaken href hroom => ?_, fun hfrozen htaken href hroom => ?_⟩
  all_goals rw [Option.isSome_iff_ne_none] at hfrozen
  · simp [hfrozen, htaken]
  · simp [hfrozen, htaken, href]
  · simp [hfrozen, htaken, href, hroom]
  · have hentry := (Store.openDownload_entry (st := s.store) h.sender p p a.count.toNat f).trans (if_pos rfl)
    have hfit := Nat.not_lt.mpr hroom
    simp only [not_or, Bool.not_eq_true, Option.isSome_eq_false_iff, Option.isNone_iff_eq_none] at htaken
    obtain ⟨hdown, hrec, hcomp⟩ := htaken
    refine ⟨(s.heard.setStore (s.store.openDownload h.sender p a.count.toNat f)).withReply h 0x10 .done
      (nat16 (s.store.freeIfReady p).hwm), s.store.freeIfReady p, ?_, rfl, hentry, fun q hq => ?_, rfl, rfl, rfl,
      ?_, ?_, rfl⟩
    · simp [hfrozen, hdown, hrec, hcomp, href, hfit, hentry]
    · exact (Store.openDownload_entry ..).trans (if_neg hq)
    · exact (Store.freeIfReady_recording p).trans hrec
    · exact (Store.freeIfReady_compacting p).trans hcomp

/-! PRESET_ERASE and PRESET_EDIT (R16, R17). -/

theorem eraseAnswer_outOfRange {b : Byte} (hb : 32 ≤ b.toNat) : eraseAnswer b s = s.answer .badRequest := by
  simp [eraseAnswer, presetOf_outOfRange hb]

theorem eraseAnswer_busy {p : Preset} (hc : s.store.compacting = true) :
    eraseAnswer (presetByte p) s = s.answer .busy := by
  simp [eraseAnswer, hc]

theorem eraseAnswer_inUse {p : Preset} (hc : s.store.compacting = false)
    (hu : s.referenced p = true ∨ (s.store.entry p).state = .loading ∨ (s.store.entry p).state = .recording) :
    eraseAnswer (presetByte p) s = s.answer .inUse := by
  rcases hu with hu | hu | hu <;> simp [eraseAnswer, hc, hu]

theorem eraseAnswer_empty {p : Preset} (hc : s.store.compacting = false) (hr : s.referenced p = false)
    (he : (s.store.entry p).state = .empty) : eraseAnswer (presetByte p) s = s.done (nat16 s.store.hwm) := by
  simp [eraseAnswer, hc, hr, he]

theorem eraseAnswer_ready {p : Preset} (hc : s.store.compacting = false) (hr : s.referenced p = false)
    (he : (s.store.entry p).state = .ready) :
    eraseAnswer (presetByte p) s = (s.setStore (s.store.free p)).done (nat16 (s.store.free p).hwm) := by
  simp [eraseAnswer, hc, hr, he]

theorem editAnswer_outOfRange {b : Byte} {m : RawModeBlock} (hbad : 32 ≤ b.toNat ∨ modeFieldsOf m = none) :
    editAnswer { preset := b, fields := m } s = s.answer .badRequest := by
  rcases hbad with hb | hm
  · simp [editAnswer, presetOf_outOfRange hb]
  · simp [editAnswer, hm]

/-- With its operands in range PRESET_EDIT takes the later checks of its table in order. -/
theorem editAnswer_inRange {p : Preset} {m : RawModeBlock} {f : ModeFields} (hf : modeFieldsOf m = some f) :
    editAnswer { preset := presetByte p, fields := m } s =
      if s.store.compacting = true then s.answer .busy
      else if (s.store.entry p).state ≠ .ready then s.answer .wrongState
      else if s.referenced p = true then s.answer .inUse
      else (s.setStore (s.store.setEntry p { s.store.entry p with fields := f })).done [] := by
  simp [editAnswer, hf]

/-- Settles O58, by the tables of the two requests. -/
theorem presetEraseAndEdit : Obligations.PresetEraseAndEdit := by
  intro h b m s hs
  rw [exec_presetErase hs, exec_presetEdit hs]
  refine ⟨fun hb => by rw [eraseAnswer_outOfRange hb]; rfl, fun hbad => by rw [editAnswer_outOfRange hbad]; rfl, ?_⟩
  rintro p f rfl hf
  rw [editAnswer_inRange hf]
  refine ⟨fun hc => ⟨by rw [eraseAnswer_busy (s := s.heard) hc]; rfl, by simp [hc]⟩, fun hc => ?_⟩
  refine ⟨fun hu => ?_, fun hr he => ?_, fun hr he => ?_, fun he => ?_, fun he hr => ?_, fun he hr => ?_⟩
  · rw [eraseAnswer_inUse (s := s.heard) hc hu]; rfl
  · rw [eraseAnswer_empty (s := s.heard) hc hr he]; rfl
  · rw [eraseAnswer_ready (s := s.heard) hc hr he]; rfl
  · simp [hc, he]
  · simp [hc, he, hr]
  · simp [hc, he, hr]

/-! The requests that only read (R18, R19, R110, R142, R175, R186). -/

theorem identAnswer_eq : identAnswer s = s.done
    [0x02, 0xE4, Config.partRevision, stationByte s.own, axisKindCode (s.start.record.map fun r => r.axisKind),
      stationStateCode s.halt.station,
      if s.start.record.isSome then 2 else if s.start.staged.isSome then 1 else 0] := rfl

theorem statusAnswer_none : statusAnswer none s = s.done s.ownStatus := rfl

theorem statusAnswer_own : statusAnswer (some (stationByte s.own)) s = s.done s.ownStatus := by
  simp [statusAnswer]

theorem statusAnswer_peer {n : Station} (hn : n ≠ s.own) :
    statusAnswer (some (stationByte n)) s = s.done (s.peerStatus n) := by
  simp [statusAnswer, hn]

theorem statusAnswer_outOfRange {b : Byte} (hb : 16 ≤ b.toNat) : statusAnswer (some b) s = s.answer .badRequest := by
  simp [statusAnswer, stationOf_outOfRange hb]

theorem countersAnswer_keep : countersAnswer 0 s = s.done (counterBytes s.link.counters) := rfl

theorem countersAnswer_clear :
    countersAnswer 1 s = (s.mapCounters fun _ => Counters.zero).done (counterBytes s.link.counters) := rfl

theorem countersAnswer_outOfRange {b : Byte} (hb : 2 ≤ b.toNat) : countersAnswer b s = s.answer .badRequest := by
  simp [countersAnswer, (switchOf_eq_none b).mpr hb]

theorem directoryAnswer_outOfRange {b : Byte} (hb : 32 ≤ b.toNat) : directoryAnswer b s = s.answer .badRequest := by
  simp [directoryAnswer, presetOf_outOfRange hb]

theorem directoryAnswer_inRange (p : Preset) : directoryAnswer (presetByte p) s =
    if s.store.compacting = true then s.answer .busy else s.done (s.store.directoryBytes p) := by
  simp [directoryAnswer]

theorem readAnswer_outOfRange {b : Byte} {i : Half} (hbad : 32 ≤ b.toNat ∨ 1023 < i.toNat) :
    readAnswer { preset := b, index := i } s = s.answer .badRequest := by
  unfold readAnswer
  split
  · rfl
  · rename_i p hp
    refine if_pos (hbad.resolve_left fun hb => ?_)
    simp [presetOf_outOfRange hb] at hp

/-- With its operands in range KEYFRAME_READ takes the later checks of its table in order. -/
theorem readAnswer_inRange {p : Preset} {i : Half} (hi : i.toNat ≤ 1023) :
    readAnswer { preset := presetByte p, index := i } s =
      if s.store.compacting = true then s.answer .busy
      else if (s.store.entry p).state = .empty then s.answer .wrongState
      else if (s.store.entry p).count ≤ i.toNat then s.answer .range
      else s.done ((readGroup i.toNat).flatMap (s.store.readItem p)) := by
  simp [readAnswer, Nat.not_lt.mpr hi]

theorem readGroup_eq (i : Nat) :
    readGroup i = [4 * (i / 4) + i % 4, 4 * (i / 4) + (i + 1) % 4, 4 * (i / 4) + (i + 2) % 4,
      4 * (i / 4) + (i + 3) % 4] := by
  simp [readGroup, Nat.mul_comm]

/-- A relative index is readable where it lies in the range and, in an open download, has been written (R19). -/
theorem Store.lt_readable_iff (p : Preset) (i : Nat) :
    i < st.readable p ↔ i < (st.entry p).count ∧
      ¬ ((st.entry p).state = .loading ∧ ∃ d, st.download = some d ∧ d.nextIndex ≤ i) := by
  unfold Store.readable
  split
  · rename_i d hl hd
    simp [hl, hd]
  · rename_i hno
    refine (and_iff_left ?_).symm
    rintro ⟨hl, d, hd, -⟩
    exact hno d hl hd

/-- Settles O50, one clause for each outcome of the five requests, and the group and the items of KEYFRAME_READ. -/
theorem readingRequestsAnswer : Obligations.ReadingRequestsAnswer := by
  refine ⟨fun h s hs => ?_, fun st p i => ⟨readGroup_eq i, fun hw => ?_, fun hw => ?_⟩⟩
  · simp only [exec_ident hs, exec_statusRead hs, exec_statusReadPeer hs, exec_countersRead hs, exec_directoryRead hs,
      exec_keyframeRead hs]
    refine ⟨?_, ?_, ?_, fun b hb => ?_, fun n hn => ?_, ?_, ?_, fun b hb => ?_, fun p hc => ?_,
      fun p i hi hi' hc he => ?_, fun p i hi hc => ⟨fun he => ?_, fun he hr => ?_⟩, fun p i hi hc => ⟨?_, ?_⟩,
      fun b i hb => ⟨?_, ?_⟩, fun b i hi => ?_⟩
    · rw [identAnswer_eq]; rfl
    · rw [statusAnswer_none]; rfl
    · rw [← State.heard_own, statusAnswer_own]; rfl
    · rw [statusAnswer_outOfRange hb]; rfl
    · rw [statusAnswer_peer (s := s.heard) hn]; rfl
    · rw [countersAnswer_keep]; rfl
    · rw [countersAnswer_clear]; rfl
    · rw [countersAnswer_outOfRange hb]; rfl
    · simp [directoryAnswer_inRange, hc]
    · simp [readAnswer_inRange hi', hc, he, Nat.not_le.mpr hi]
    · simp [readAnswer_inRange hi, hc, he]
    · simp [readAnswer_inRange hi, hc, he, hr]
    · simp [directoryAnswer_inRange, hc]
    · simp [readAnswer_inRange hi, hc]
    · rw [directoryAnswer_outOfRange hb]; rfl
    · rw [readAnswer_outOfRange (.inl hb)]; rfl
    · rw [readAnswer_outOfRange (.inr hi)]; rfl
  · rw [Store.readItem, if_pos ((Store.lt_readable_iff p i).mpr hw)]
  · rw [Store.readItem, if_neg (mt (Store.lt_readable_iff p i).mp hw)]
    rfl

end Sys2Proof.Machine

/-! SUPPORT. What KEYFRAME_WRITE answers and stores (R8). -/

namespace Sys2Proof.Machine

variable {s : State} {st : Store}

/-! KEYFRAME_WRITE (R8). -/

theorem writeAnswer_outOfRange {n : Station} {a : WriteArgs}
    (hbad : 32 ≤ a.preset.toNat ∨ 1023 < a.start.toNat ∨ a.keyframes.length = 0 ∨ 4 < a.keyframes.length ∨
      ∃ k ∈ a.keyframes, 3 ≤ k.shape.toNat) : writeAnswer n a s = s.answer .badRequest := by
  unfold writeAnswer
  split
  · rename_i p ks hp hks
    refine if_pos ?_
    have hlen := (keyframesOf_forall₂ hks).length_eq
    rcases hbad with hbad | hbad | hbad | hbad | ⟨k, hk, hshape⟩
    · simp [presetOf_outOfRange hbad] at hp
    · omega
    · omega
    · omega
    · have := (keyframesOf_isSome a.keyframes).mp (by simp [hks]) k hk
      omega
  · rfl

/-- With its operands in range KEYFRAME_WRITE asks for an open download first. -/
theorem writeAnswer_noDownload {n : Station} {a : WriteArgs} {p : Preset} {ks : List Keyframe}
    (hp : a.preset = presetByte p) (hstart : a.start.toNat ≤ 1023) (hks : keyframesOf a.keyframes = some ks)
    (hlow : 1 ≤ ks.length) (hhigh : ks.length ≤ 4) (hd : s.store.download = none) :
    writeAnswer n a s = s.answer .wrongState := by
  simp [writeAnswer, hp, hks, hstart, hlow, hhigh, hd]

/-- With a download open KEYFRAME_WRITE asks for its preset and its owner, in that order. -/
theorem writeAnswer_download {n : Station} {a : WriteArgs} {p : Preset} {ks : List Keyframe} {d : Download}
    (hp : a.preset = presetByte p) (hstart : a.start.toNat ≤ 1023) (hks : keyframesOf a.keyframes = some ks)
    (hlow : 1 ≤ ks.length) (hhigh : ks.length ≤ 4) (hd : s.store.download = some d) :
    writeAnswer n a s =
      if d.preset ≠ p then s.answer .wrongState
      else if d.owner ≠ n then s.answer .notOwner
      else writeOwned d a.start.toNat ks s := by
  simp [writeAnswer, hp, hks, hstart, hlow, hhigh, hd]

theorem writeOwned_sequence {d : Download} {start : Nat} {ks : List Keyframe} (hseq : start ≠ d.nextIndex) :
    writeOwned d start ks s =
      { after := s.setStore { s.store with download := some d.restarted }, code := .sequence,
        results := nat16 d.nextIndex } := if_pos hseq

theorem writeOwned_range {d : Download} {start : Nat} {ks : List Keyframe} (hseq : start = d.nextIndex)
    (hover : (s.store.entry d.preset).count < start + ks.length) :
    writeOwned d start ks s = (s.setStore { s.store with download := some d.restarted }).answer .range :=
  (if_neg (not_not.mpr hseq)).trans (if_pos hover)

theorem writeOwned_stored {d : Download} {start : Nat} {ks : List Keyframe} (hseq : start = d.nextIndex)
    (hfit : start + ks.length ≤ (s.store.entry d.preset).count) :
    writeOwned d start ks s =
      (s.setStore
        { s.store with
          pool := s.store.pool.writeAll ((s.store.entry d.preset).first + start) ks
          download := some { d.restarted with nextIndex := d.nextIndex + ks.length } }).done
        (nat16 (d.nextIndex + ks.length)) :=
  (if_neg (not_not.mpr hseq)).trans (if_neg (Nat.not_lt.mpr hfit))

/-- Keyframes written end to end are read back one by one (R8). -/
theorem Pool.read_writeAll_inside (pool : Pool) (i j : Nat) (ks : List Keyframe) (hj : j < ks.length) :
    (pool.writeAll i ks).read (i + j) = ks[j] := by
  rw [Pool.read_writeAll, dif_pos ⟨by omega, by omega⟩]
  congr 1
  omega

theorem Pool.read_writeAll_outside (pool : Pool) (i j : Nat) (ks : List Keyframe) (hj : j < i ∨ i + ks.length ≤ j) :
    (pool.writeAll i ks).read j = pool.read j := by
  rw [Pool.read_writeAll, dif_neg (by omega)]

/-- Settles O56, by the table of KEYFRAME_WRITE; what a read finds is the pool's law of a write end to end. -/
theorem keyframeWriteStores : Obligations.KeyframeWriteStores := by
  intro h a s hs
  rw [exec_keyframeWrite hs]
  refine ⟨fun hbad => by rw [writeAnswer_outOfRange hbad]; rfl, fun p hp hstart hlow hhigh hshapes => ?_⟩
  obtain ⟨ks, hks⟩ := Option.isSome_iff_exists.mp ((keyframesOf_isSome a.keyframes).mpr hshapes)
  have hcarried := keyframesOf_forall₂ hks
  have hlen := hcarried.length_eq
  rw [hlen] at hlow hhigh
  refine ⟨fun hd => ?_, fun d hd => ?_⟩
  · rw [writeAnswer_noDownload (s := s.heard) hp hstart hks hlow hhigh hd]; rfl
  rw [writeAnswer_download (s := s.heard) hp hstart hks hlow hhigh hd]
  refine ⟨fun hdp => by rw [if_pos hdp]; rfl, fun hdp ho => by rw [if_neg (not_not.mpr hdp), if_pos ho]; rfl, ?_⟩
  rintro rfl ho
  rw [if_neg (not_not.mpr rfl), if_neg (not_not.mpr ho)]
  refine ⟨fun hseq => ?_, fun hseq hover => ?_, fun hseq hfit => ?_⟩
  · rw [writeOwned_sequence hseq]; rfl
  · rw [writeOwned_range (s := s.heard) hseq (hlen ▸ hover)]; rfl
  · refine ⟨_, congrArg (fun a : Answer => Host.Outcome.next (a.reply h 0x11))
      (writeOwned_stored (s := s.heard) hseq (hlen ▸ hfit)), fun j hj => ?_, fun i hi => ?_, ?_, ?_⟩
    · have hj' : j < ks.length := hlen ▸ hj
      have hread := Pool.read_writeAll_inside s.store.pool ((s.store.entry d.preset).first + a.start.toNat) j ks hj'
      have hfields := keyframeOf_fields (hcarried.get hj hj')
      rw [List.get_eq_getElem, List.get_eq_getElem, ← hread] at hfields
      exact hfields
    · exact Pool.read_writeAll_outside _ _ _ _ (hlen ▸ hi)
    · rw [hlen]; rfl
    · rw [hlen]; rfl

end Sys2Proof.Machine

/-! SUPPORT. The checks of PRESET_CLOSE and its outcomes (R9). -/

namespace Sys2Proof.Machine

variable {s : State} {st : Store}

/-! The four checks of PRESET_CLOSE (R9). -/

theorem firstNotRising_eq_none (ks : List Keyframe) (n : Nat)
    (hrise : ∀ j, j + 1 < ks.length →
      (ks.getD j Keyframe.blank).time < (ks.getD (j + 1) Keyframe.blank).time) : firstNotRising ks n = none := by
  fun_induction firstNotRising ks n with
  | case1 a b rest n hab => exact absurd (hrise 0 (by simp)) (Nat.not_lt.mpr hab)
  | case2 a b rest n hab ih => exact ih fun j hj => hrise (j + 1) (Nat.succ_lt_succ hj)
  | case3 => rfl

/-- The first index whose time does not rise is the one found, whatever follows it. -/
theorem firstNotRising_eq_some (ks : List Keyframe) (n i : Nat) (hi : i + 1 < ks.length)
    (hfall : (ks.getD (i + 1) Keyframe.blank).time ≤ (ks.getD i Keyframe.blank).time)
    (hrise : ∀ j < i, (ks.getD j Keyframe.blank).time < (ks.getD (j + 1) Keyframe.blank).time) :
    firstNotRising ks n = some (n + (i + 1)) := by
  fun_induction firstNotRising ks n generalizing i with
  | case1 a b rest n hab =>
    cases i with
    | zero => rfl
    | succ i => exact absurd (hrise 0 (by omega)) (Nat.not_lt.mpr hab)
  | case2 a b rest n hab ih =>
    cases i with
    | zero => exact absurd hfall hab
    | succ i =>
      rw [ih i (Nat.lt_of_succ_lt_succ hi) hfall fun j hj => hrise (j + 1) (Nat.succ_lt_succ hj)]
      congr 1; omega
  | case3 ks n hno =>
    match ks, hno with
    | [], _ => simp at hi
    | [a], _ => simp at hi
    | a :: b :: rest, hno => exact absurd rfl (hno a b rest)

/-- The first index whose position lies outside is the one found, whatever follows it. -/
theorem firstOutside_eq_some (lo hi : Int) (ks : List Keyframe) (n i : Nat) (hlen : i < ks.length)
    (hout : (ks.getD i Keyframe.blank).position < lo ∨ hi < (ks.getD i Keyframe.blank).position)
    (hin : ∀ j < i, ¬ ((ks.getD j Keyframe.blank).position < lo ∨ hi < (ks.getD j Keyframe.blank).position)) :
    firstOutside lo hi ks n = some (n + i) := by
  induction ks generalizing n i with
  | nil => simp at hlen
  | cons k ks ih =>
    unfold firstOutside
    cases i with
    | zero => exact if_pos hout
    | succ i =>
      have hk := hin 0 (by omega)
      rw [List.getD_cons_zero] at hk
      rw [if_neg hk, ih (n + 1) i (Nat.lt_of_succ_lt_succ hlen) hout fun j hj => hin (j + 1) (Nat.succ_lt_succ hj)]
      congr 1; omega

theorem firstOutside_eq_none (lo hi : Int) (ks : List Keyframe) (n : Nat)
    (hin : ∀ j < ks.length,
      ¬ ((ks.getD j Keyframe.blank).position < lo ∨ hi < (ks.getD j Keyframe.blank).position)) :
    firstOutside lo hi ks n = none := by
  rw [← Option.not_isSome_iff_eq_none, firstOutside_isSome]
  rintro ⟨k, hk, hout⟩
  obtain ⟨j, hj, rfl⟩ := List.mem_iff_getElem.mp hk
  refine hin j hj ?_
  rwa [List.getD_eq_getElem _ _ hj]

section Checks

variable {lo hi : Int} {count written : Nat} {ks : List Keyframe}

theorem closeFailure_incomplete (hn : written ≠ count) : closeFailure lo hi count written ks = some (1, written) :=
  if_pos hn

theorem closeFailure_start (hn : written = count) (h0 : (ks.getD 0 Keyframe.blank).time ≠ 0) :
    closeFailure lo hi count written ks = some (2, 0) := by
  have h0' : (ks.headD Keyframe.blank).time ≠ 0 := by cases ks <;> exact h0
  rw [closeFailure, if_neg (not_not.mpr hn), if_pos h0']

/-- Past the first two checks the times are looked at, and then the positions. -/
theorem closeFailure_complete (hn : written = count) (h0 : (ks.getD 0 Keyframe.blank).time = 0) :
    closeFailure lo hi count written ks =
      ((firstNotRising ks 0).map fun i => (3, i)).or ((firstOutside lo hi ks 0).map fun i => (4, i)) := by
  have h0' : ¬ (ks.headD Keyframe.blank).time ≠ 0 := by cases ks <;> exact not_not.mpr h0
  rw [closeFailure, if_neg (not_not.mpr hn), if_neg h0']
  cases firstNotRising ks 0 <;> cases firstOutside lo hi ks 0 <;> rfl

end Checks

/-! PRESET_CLOSE (R9). -/

theorem closeAnswer_outOfRange {n : Station} {b : Byte} (hb : 32 ≤ b.toNat) :
    closeAnswer n b s = s.answer .badRequest := by
  simp [closeAnswer, presetOf_outOfRange hb]

theorem closeAnswer_noDownload {n : Station} {p : Preset} (hd : s.store.download = none) :
    closeAnswer n (presetByte p) s = s.answer .wrongState := by
  simp [closeAnswer, hd]

/-- With a download open PRESET_CLOSE asks for its preset and its owner, in that order. -/
theorem closeAnswer_download {n : Station} {p : Preset} {d : Download} (hd : s.store.download = some d) :
    closeAnswer n (presetByte p) s =
      if d.preset ≠ p then s.answer .wrongState
      else if d.owner ≠ n then s.answer .notOwner
      else closeOwned d s := by
  simp [closeAnswer, hd]

theorem closeOwned_rejected {d : Download} {check index : Nat}
    (hf : closeFailure s.record.lo s.record.hi (s.store.entry d.preset).count d.nextIndex (s.store.keyframes d.preset) =
      some (check, index)) :
    closeOwned d s =
      { after := s.setStore { s.store.free d.preset with download := none }, code := .rejected,
        results := nat8 check :: nat16 index } := by
  simp [closeOwned, hf]

theorem closeOwned_done {d : Download}
    (hf : closeFailure s.record.lo s.record.hi (s.store.entry d.preset).count d.nextIndex (s.store.keyframes d.preset) =
      none) :
    closeOwned d s =
      (s.setStore { s.store.setEntry d.preset { s.store.entry d.preset with state := .ready } with
        download := none }).done [] := by
  simp [closeOwned, hf]

/-- Settles O57, by the order of the four checks. -/
theorem presetCloseChecks : Obligations.PresetCloseChecks := by
  intro h b s hs
  rw [exec_presetClose hs]
  refine ⟨fun hb => by rw [closeAnswer_outOfRange hb]; rfl, ?_⟩
  rintro p rfl
  refine ⟨fun hd => by rw [closeAnswer_noDownload (s := s.heard) hd]; rfl, fun d hd => ?_⟩
  rw [closeAnswer_download (s := s.heard) hd]
  refine ⟨fun hdp => by rw [if_pos hdp]; rfl, fun hdp ho => by rw [if_neg (not_not.mpr hdp), if_pos ho]; rfl, ?_⟩
  rintro rfl ho -
  rw [if_neg (not_not.mpr rfl), if_neg (not_not.mpr ho)]
  intro e ks rejects time outside
  have hlen : ks.length = e.count := Pool.range_length ..
  have reject : ∀ check index, closeFailure s.record.lo s.record.hi e.count d.nextIndex ks = some (check, index) →
      rejects check index := fun check index hf =>
    congrArg (fun a : Answer => Host.Outcome.next (a.reply h 0x12)) (closeOwned_rejected (s := s.heard) hf)
  refine ⟨fun hn => ?_, fun hn h0 => ?_, fun i hn h0 hi hfall hrise => ?_, fun i hn h0 hrise hi hout hin => ?_,
    fun hn h0 hrise hin => ?_⟩
  · exact reject _ _ (closeFailure_incomplete hn)
  · exact reject _ _ (closeFailure_start hn h0)
  · refine reject _ _ ?_
    rw [closeFailure_complete hn h0, firstNotRising_eq_some ks 0 i (hlen ▸ hi) hfall hrise]
    simp
  · refine reject _ _ ?_
    rw [closeFailure_complete hn h0, firstNotRising_eq_none ks 0 (hlen ▸ hrise),
      firstOutside_eq_some _ _ ks 0 i (hlen ▸ hi) hout hin]
    simp
  · refine congrArg (fun a : Answer => Host.Outcome.next (a.reply h 0x12)) (closeOwned_done (s := s.heard) ?_)
    refine (closeFailure_complete hn h0).trans ?_
    rw [firstNotRising_eq_none _ 0 (hlen ▸ hrise), firstOutside_eq_none _ _ _ 0 (hlen ▸ hin)]
    rfl

end Sys2Proof.Machine

/-! SUPPORT. Freed ranges (R4, R23) and recordings: start, capture, end (R11 to R15). -/

namespace Sys2Proof.Machine

variable {s : State} {st : Store}

/-! Freeing a range, and the check of a new soft range (R4, R23). -/

/-- Settles O54, by what a freeing leaves and by induction over the entries checked. -/
theorem rangesAreFreed : Obligations.RangesAreFreed := by
  refine ⟨fun st p hsound hp => ?_, fun lo hi st hsound p => ?_⟩
  · obtain ⟨hkept, hdrop⟩ := Store.free_hwm (st := st) p
    exact ⟨(Store.free_entry p p).trans (if_pos rfl), fun q hq => hsound.free_other hp hq, hkept, hdrop, rfl, rfl, rfl⟩
  · obtain ⟨hfreed, hkept⟩ := (Store.checkEntries_spec lo hi presets st hsound).2 p
    exact ⟨hfreed (mem_presets p), fun hin => hkept (hin.imp_right .inl)⟩

/-! The start of a recording (R11, R12). -/

theorem State.capturedKeyframe_eq (t : Nat) : s.capturedKeyframe t =
    { time := t, position := min (max ((s.blend.x + 32768) / 65536) s.record.lo) s.record.hi, shape := .linear } := rfl

theorem State.startRecording_entry (p q : Preset) (interval : Nat) :
    (s.startRecording p interval).store.entry q =
      if q = p then { state := .recording, first := (s.store.freeIfReady p).hwm, count := 1,
                      fields := ModeFields.initial, truncated := false }
      else s.store.entry q := by
  refine (Store.entry_of_set rfl).trans ?_
  split
  · rfl
  · rename_i hq
    exact Store.freeIfReady_entry hq

theorem State.startRecording_read (p : Preset) (interval i : Nat) :
    (s.startRecording p interval).store.pool.read i =
      if (s.store.freeIfReady p).hwm = i then s.capturedKeyframe 0 else (s.store.freeIfReady p).pool.read i :=
  Pool.read_write ..

/-- REC_START takes effect exactly under the conditions of R11. -/
theorem State.actRecStart_starts {p : Preset} {interval : Byte} (hi : interval ≠ 0) (hrun : s.halt.station = .run)
    (hd : s.store.download = none) (hr : s.store.recording = none) (hc : s.store.compacting = false)
    (href : s.referenced p = false) (hroom : s.store.hwm + 2 ≤ 1024) :
    s.actRecStart (presetByte p) interval = s.startRecording p interval.toNat := by
  have hi' : 1 ≤ interval.toNat := by bv_omega
  simp [State.actRecStart, hi', hrun, hd, hr, hc, href, hroom]

theorem State.actRecStart_miss {preset interval : Byte}
    (hbad : 32 ≤ preset.toNat ∨ interval = 0 ∨ s.halt.station ≠ .run ∨ s.store.download ≠ none ∨
      s.store.recording ≠ none ∨ s.store.compacting = true ∨
      (∃ p : Preset, preset = presetByte p ∧ s.referenced p = true) ∨ 1024 < s.store.hwm + 2) :
    s.actRecStart preset interval = s.countMiss := by
  unfold State.actRecStart
  split
  · rename_i p hp
    refine if_neg ?_
    rintro ⟨hi, hrun, hd, hr, hc, href, hroom⟩
    rw [Option.isNone_iff_eq_none] at hd hr
    rcases hbad with hbad | rfl | hbad | hbad | hbad | hbad | ⟨q, rfl, hbad⟩ | hbad
    · simp [presetOf_outOfRange hbad] at hp
    · exact absurd hi (by decide)
    · exact hbad hrun
    · exact hbad hd
    · exact hbad hr
    · exact hc hbad
    · rw [presetOf_presetByte] at hp
      cases hp
      exact href hbad
    · omega
  · rfl

/-- Settles O37, by the conditions of R11 and what R12 then writes. -/
theorem recordingStarts : Obligations.RecordingStarts := by
  intro n m preset interval s hcued
  rw [exec_recStart hcued]
  refine ⟨?_, fun hbad => congrArg _ (State.actRecStart_miss (s := s.heard) hbad)⟩
  rintro p rfl hi hrun hd hr hc href hroom
  rw [State.actRecStart_starts (s := s.heard) hi hrun hd hr hc href hroom]
  refine ⟨s.heard.startRecording p interval.toNat, s.store.freeIfReady p, rfl, rfl, ?_, fun q hq => ?_, ?_,
    fun i hne => ?_, rfl, rfl, ?_, ?_, rfl⟩
  · exact (State.startRecording_entry ..).trans (if_pos rfl)
  · exact (State.startRecording_entry ..).trans (if_neg hq)
  · exact (State.startRecording_read ..).trans (if_pos rfl)
  · exact (State.startRecording_read ..).trans (if_neg hne.symm)
  · exact (Store.freeIfReady_download p).trans hd
  · exact (Store.freeIfReady_compacting p).trans hc

/-! The capture and the end of a recording (R13 to R15). -/

theorem State.capture_entry (r : Recording) (t : Nat) (q : Preset) :
    (s.capture r t).store.entry q =
      if q = r.preset then { s.store.entry r.preset with count := (s.store.entry r.preset).count + 1 }
      else s.store.entry q := Store.entry_of_set rfl

theorem State.capture_read (r : Recording) (t i : Nat) :
    (s.capture r t).store.pool.read i = if s.store.hwm = i then s.capturedKeyframe t else s.store.pool.read i :=
  Pool.read_write ..

theorem State.closeRecording_kept {r : Recording} {b : Bool} (hcount : 2 ≤ (s.store.entry r.preset).count) :
    s.closeRecording r b = s.setStore
      { s.store.setEntry r.preset { s.store.entry r.preset with state := .ready, truncated := b } with
        recording := none } := if_pos hcount

theorem State.closeRecording_tooShort {r : Recording} {b : Bool} (hcount : (s.store.entry r.preset).count < 2) :
    s.closeRecording r b = (s.setStore { s.store.free r.preset with recording := none }).countMiss :=
  if_neg (Nat.not_le.mpr hcount)

/-- The end of a recording, however it ends, touches no other entry and no download. -/
theorem State.closeRecording_others (r : Recording) (b : Bool) :
    (s.closeRecording r b).store.download = s.store.download ∧
    ∀ q : Preset, q ≠ r.preset → (s.closeRecording r b).store.entry q = s.store.entry q := by
  rcases Nat.lt_or_ge (s.store.entry r.preset).count 2 with hcount | hcount
  · rw [State.closeRecording_tooShort hcount]
    exact ⟨rfl, fun q hq => (Store.free_entry r.preset q).trans (if_neg hq)⟩
  · rw [State.closeRecording_kept hcount]
    exact ⟨rfl, fun q hq => (Store.setEntry_entry r.preset q _).trans (if_neg hq)⟩

/-- Ended with its final keyframe a recording is READY, for the one keyframe it began with and the last make two. -/
theorem State.capture_closeRecording {r : Recording} {t : Nat} (hcount : 1 ≤ (s.store.entry r.preset).count) :
    (s.capture r t).closeRecording r false = s.setStore
      { (s.capture r t).store.setEntry r.preset
          { s.store.entry r.preset with
            state := .ready, count := (s.store.entry r.preset).count + 1, truncated := false } with
        recording := none } := by
  have hentry : (s.capture r t).store.entry r.preset =
      { s.store.entry r.preset with count := (s.store.entry r.preset).count + 1 } :=
    (State.capture_entry ..).trans (if_pos rfl)
  rw [State.closeRecording_kept (by rw [hentry]; exact Nat.succ_le_succ hcount), hentry]
  rfl

theorem State.endRecording_final {r : Recording} (hr : s.store.recording = some r)
    (hfinal : r.elapsed ≠ r.lastCapture ∧ s.store.hwm < 1024) :
    s.endRecording = (s.capture r r.elapsed).closeRecording r false := by
  simp [State.endRecording, hr, hfinal]

theorem State.endRecording_plain {r : Recording} (hr : s.store.recording = some r)
    (hfinal : ¬ (r.elapsed ≠ r.lastCapture ∧ s.store.hwm < 1024)) : s.endRecording = s.closeRecording r false := by
  unfold State.endRecording
  rw [hr]
  exact if_neg hfinal

theorem State.endRecording_others {r : Recording} (hr : s.store.recording = some r) :
    s.endRecording.store.download = s.store.download ∧
    ∀ q : Preset, q ≠ r.preset → s.endRecording.store.entry q = s.store.entry q := by
  by_cases hfinal : r.elapsed ≠ r.lastCapture ∧ s.store.hwm < 1024
  · rw [State.endRecording_final hr hfinal]
    obtain ⟨hdown, hentry⟩ := State.closeRecording_others (s := s.capture r r.elapsed) r false
    exact ⟨hdown, fun q hq => (hentry q hq).trans ((State.capture_entry ..).trans (if_neg hq))⟩
  · rw [State.endRecording_plain hr hfinal]
    exact State.closeRecording_others r false

theorem State.actRecStop_miss (h : s.halt.station ≠ .run ∨ s.store.recording = none) : s.actRecStop = s.countMiss := by
  rcases h with h | h <;> simp [State.actRecStop, h]

theorem State.actRecStop_ends {r : Recording} (hrun : s.halt.station = .run) (hr : s.store.recording = some r) :
    s.actRecStop = s.endRecording := by
  simp [State.actRecStop, hrun, hr]

theorem State.recordExpiry_waits {r : Recording} (hr : s.store.recording = some r) (htop : r.elapsed + 1 ≠ 16777216)
    (hdue : ¬ (r.elapsed + 1) % r.interval = 0) :
    s.recordExpiry = s.setStore { s.store with recording := some { r with elapsed := r.elapsed + 1 } } := by
  simp [State.recordExpiry, hr, htop, hdue]

theorem State.recordExpiry_captures {r : Recording} (hr : s.store.recording = some r)
    (htop : r.elapsed + 1 ≠ 16777216) (hdue : (r.elapsed + 1) % r.interval = 0) (hroom : s.store.hwm < 1024) :
    s.recordExpiry = s.capture { r with elapsed := r.elapsed + 1 } (r.elapsed + 1) := by
  simp [State.recordExpiry, hr, htop, hdue, Nat.not_le.mpr hroom]

theorem State.recordExpiry_limit {r : Recording} (hr : s.store.recording = some r)
    (hlimit : r.elapsed + 1 = 16777216 ∨ (r.elapsed + 1) % r.interval = 0 ∧ 1024 ≤ s.store.hwm) :
    s.recordExpiry = s.closeRecording r true := by
  unfold State.recordExpiry
  rw [hr]
  exact if_pos hlimit

/-! The recording's work at an expiry in RUN (R56). -/

/-- The readers of the setpoint after the recording leave the store as it stands. -/
theorem State.readSetpoint_store : s.readSetpoint.store = s.recordExpiry.store := by
  simp only [State.readSetpoint, State.seekTest, State.passTest, State.endPass, State.endCue]
  repeat' split
  all_goals rfl

/-- Of the blend a recording reads the setpoint only. -/
theorem State.recordExpiry_store_congr {t : State} (hstore : s.store = t.store) (hx : s.blend.x = t.blend.x)
    (hrec : s.record = t.record) : s.recordExpiry.store = t.recordExpiry.store := by
  have hkey : ∀ n, s.capturedKeyframe n = t.capturedKeyframe n := fun n => by
    rw [State.capturedKeyframe_eq, State.capturedKeyframe_eq, hx, hrec]
  unfold State.recordExpiry
  rw [hstore]
  cases t.store.recording with
  | none => exact hstore
  | some r =>
    simp only [State.closeRecording, State.capture, hstore, hkey]
    repeat' split
    all_goals rfl

/-- No download is open while a recording runs, so the ageing of an expiry leaves the store as it stands. -/
theorem State.storedSetpoint_store (hd : s.store.download = none) : s.storedSetpoint.store = s.store := by
  unfold State.storedSetpoint
  rw [State.computeRun_eq, State.setBlend_store, State.setRunning_store, State.ageExpiry_store, State.downloadExpiry, hd]

theorem State.storedSetpoint_record : s.storedSetpoint.record = s.record := by
  unfold State.storedSetpoint
  rw [State.computeRun_eq, State.setBlend_record, State.setRunning_record, State.ageExpiry_record]

/-- A recording's work at an expiry reads the setpoint that the same expiry stores (R13, R56). -/
theorem State.expiry_recording (hrun : s.halt.station = .run) (hd : s.store.download = none)
    (hq : s.handsOverQuietly) : s.expiry.store = (s.setBlend s.expiry.blend).recordExpiry.store := by
  obtain ⟨hstore, -, -, -, -, -, -, -⟩ := State.expiry_quiet hq
  obtain ⟨-, -, -, -, -, -, -, hx, -, -, -, -, -⟩ := State.expiry_frame (s := s)
  obtain ⟨-, -, -, -, -, -, -, -, -, hread, -⟩ := State.readSetpoint_frame (s := s.storedSetpoint)
  rw [State.computed_run hrun] at hstore hx
  rw [hstore, State.readSetpoint_store]
  exact State.recordExpiry_store_congr (State.storedSetpoint_store hd) (hread.symm.trans hx.symm)
    State.storedSetpoint_record

/-- Settles O38: the end by REC_STOP, then the capture or the limits at an expiry, then the expiry that brings them. -/
theorem recordingCapturesAndStops : Obligations.RecordingCapturesAndStops := by
  refine ⟨fun n m s hcued => ?_, fun s r hr => ?_, fun s hmode hrst hrun hrec hq => ?_⟩
  · rw [exec_recStop hcued]
    refine ⟨fun hbad => congrArg _ (State.actRecStop_miss (s := s.heard) hbad), fun r hrun hr => ?_⟩
    rw [State.actRecStop_ends (s := s.heard) hrun hr]
    obtain ⟨hdown, hothers⟩ := State.endRecording_others (s := s.heard) hr
    refine ⟨s.heard.endRecording, rfl, State.endRecording_recording, hdown, hothers, fun hfinal hcount => ?_,
      fun hfinal hcount => ?_, fun hfinal hcount => ?_⟩
    · rw [State.endRecording_final (s := s.heard) hr hfinal,
        State.capture_closeRecording (s := s.heard) hcount]
      exact ⟨(Store.setEntry_entry ..).trans (if_pos rfl), rfl, (State.capture_read r _ _).trans (if_pos rfl),
        fun i hi => (State.capture_read r _ _).trans (if_neg hi.symm), rfl⟩
    · rw [State.endRecording_plain (s := s.heard) hr hfinal,
        State.closeRecording_kept (s := s.heard) hcount]
      exact ⟨rfl, rfl⟩
    · rw [State.endRecording_plain (s := s.heard) hr hfinal,
        State.closeRecording_tooShort (s := s.heard) hcount]
      exact ⟨rfl, rfl⟩
  · refine ⟨State.recordExpiry_waits hr, fun htop hdue hroom => ?_, fun hlimit hcount => ?_⟩
    · rw [State.recordExpiry_captures hr htop hdue hroom]
      exact ⟨(State.capture_entry ..).trans (if_pos rfl), rfl, rfl, (State.capture_read ..).trans (if_pos rfl),
        fun i hi => (State.capture_read ..).trans (if_neg hi.symm),
        fun q hq => (State.capture_entry ..).trans (if_neg hq), rfl⟩
    · exact (State.recordExpiry_limit hr hlimit).trans (State.closeRecording_kept hcount)
  · have hd : s.store.download = none := by
      by_contra hne
      have hnone := (hmode.oneInProgress.1 (Option.isSome_iff_ne_none.mpr hne)).1
      simp [hnone] at hrec
    have htimer : s.timerRuns = true := by simp [State.timerRuns, hrst, hrun]
    exact ⟨s.expiry, congrArg Host.Outcome.next (if_pos htimer), State.expiry_recording hrun hd hq⟩

end Sys2Proof.Machine

/-! SUPPORT. The acceptance of a compaction, and what its completion leaves of each range (R20, R21, R23). -/

namespace Sys2Proof.Machine

variable {s : State} {st : Store}

/-! The sums of a compaction (R18, R21). -/

theorem Store.directory_toList : st.directory.toList = presets.map st.entry :=
  List.ext_getElem (by simp [presets]) fun i _ _ => by simp [presets, Store.entry]

/-- A range of a sound store holds a keyframe. -/
theorem Store.Sound.count_pos (h : st.Sound) {p : Preset} (hp : (st.entry p).state ≠ .empty) :
    1 ≤ (st.entry p).count := by
  cases hs : (st.entry p).state with
  | empty => exact absurd hs hp
  | loading => exact (Nat.le_succ 1).trans (h.loading p hs).1
  | recording => exact (h.recording p hs).1
  | ready => exact (Nat.le_succ 1).trans (h.ready p hs)

/-- An EMPTY entry counts nothing, so the sums over the owned entries are those over all. -/
theorem Store.Sound.owned_count (h : st.Sound) (p : Preset) :
    (if (st.entry p).owns = true then (st.entry p).count else 0) = (st.entry p).count := by
  by_cases hp : (st.entry p).state = .empty
  · simp [h.count_empty hp]
  · simp [DirEntry.owns, hp]

theorem Store.Sound.held_eq (h : st.Sound) : st.held = (presets.map fun p => (st.entry p).count).sum := by
  rw [Store.held, Store.directory_toList, List.map_map]
  exact congrArg List.sum (List.map_congr_left fun p _ => h.owned_count p)

/-- A range moves down to where the ranges below it end, laid end to end (R21). -/
theorem Store.Sound.movedFirst_eq_map (h : st.Sound) (p : Preset) :
    st.movedFirst p =
      (presets.map fun q => if (st.entry q).first < (st.entry p).first then (st.entry q).count else 0).sum := by
  rw [Store.movedFirst, Store.directory_toList, List.map_map]
  refine congrArg List.sum (List.map_congr_left fun q _ => ?_)
  rw [Function.comp_apply, ← h.owned_count q]
  by_cases hq : (st.entry q).owns = true <;> simp [hq]

theorem Store.Sound.movedFirst_eq_sum (h : st.Sound) (p : Preset) :
    st.movedFirst p = ∑ q with (st.entry q).first < (st.entry p).first, (st.entry q).count := by
  rw [h.movedFirst_eq_map, Finset.sum_filter, Fin.sum_univ_def]
  rfl

theorem Store.Sound.movedFirst_eq_filter (h : st.Sound) (p : Preset) :
    st.movedFirst p = ((presets.filter fun q => (st.entry q).first < (st.entry p).first).map
      fun q => (st.entry q).count).sum := by
  rw [h.movedFirst_eq_map, List.sum_map_ite]
  simp

/-- Moved ranges lie in the order of the ranges they come from, and apart (R21). -/
theorem Store.Sound.movedFirst_apart (h : st.Sound) {p q : Preset} (hp : (st.entry p).state ≠ .empty)
    (hpq : (st.entry p).first + (st.entry p).count ≤ (st.entry q).first) :
    st.movedFirst p + (st.entry p).count ≤ st.movedFirst q := by
  have hpos := h.count_pos hp
  rw [h.movedFirst_eq_sum, h.movedFirst_eq_sum, add_comm,
    ← Finset.sum_insert (f := fun q => (st.entry q).count) (by simp)]
  refine Finset.sum_le_sum_of_subset fun r hr => ?_
  rw [Finset.mem_filter_univ]
  rcases Finset.mem_insert.mp hr with rfl | hr
  · omega
  · have := (Finset.mem_filter_univ r).mp hr
    omega

/-! The pool of a compaction (R21). -/

/-- One step of a compaction: an owned range written at its new place. -/
def Store.moveRange (st : Store) (pool : Pool) (p : Preset) : Pool :=
  if (st.entry p).owns then pool.writeAll (st.movedFirst p) (st.keyframes p) else pool

theorem Store.moveRange_read_same (pool : Pool) {p : Preset} (hp : (st.entry p).state ≠ .empty) {i : Nat}
    (hi : i < (st.entry p).count) :
    (st.moveRange pool p).read (st.movedFirst p + i) = st.pool.read ((st.entry p).first + i) := by
  rw [Store.moveRange, if_pos (by simp [DirEntry.owns, hp]),
    Pool.read_writeAll_inside _ _ _ _ (by simpa [Store.keyframes] using hi)]
  simp [Store.keyframes, Pool.range]

theorem Store.Sound.moveRange_read_other (h : st.Sound) (pool : Pool) {p q : Preset} (hqp : q ≠ p)
    (hp : (st.entry p).state ≠ .empty) {i : Nat} (hi : i < (st.entry p).count) :
    (st.moveRange pool q).read (st.movedFirst p + i) = pool.read (st.movedFirst p + i) := by
  unfold Store.moveRange
  split
  · rename_i hq
    have hq' : (st.entry q).state ≠ .empty := by simpa [DirEntry.owns] using hq
    have hlen : (st.keyframes q).length = (st.entry q).count := Pool.range_length ..
    refine Pool.read_writeAll_outside _ _ _ _ ?_
    rcases h.apart p q hqp.symm hp hq' with hlow | hhigh
    · have := h.movedFirst_apart hp hlow
      omega
    · have := h.movedFirst_apart hq' hhigh
      omega
  · rfl

/-- A keyframe of an owned range stands at its new place once its range has been moved, whatever is moved after it. -/
theorem Store.Sound.read_moved (h : st.Sound) {p : Preset} (hp : (st.entry p).state ≠ .empty) {i : Nat}
    (hi : i < (st.entry p).count) (l : List Preset) : ∀ pool : Pool,
    (p ∈ l ∨ pool.read (st.movedFirst p + i) = st.pool.read ((st.entry p).first + i)) →
    (l.foldl st.moveRange pool).read (st.movedFirst p + i) = st.pool.read ((st.entry p).first + i) := by
  induction l with
  | nil => intro pool hpool; simpa using hpool
  | cons q l ih =>
    intro pool hpool
    refine ih _ ?_
    by_cases hqp : q = p
    · subst hqp
      exact .inr (Store.moveRange_read_same pool hp hi)
    · rw [h.moveRange_read_other pool hqp hp hi]
      exact hpool.imp_left fun hmem => (List.mem_cons.mp hmem).resolve_left (Ne.symm hqp)

/-! The compacted store (R21). -/

/-- The pool of a compaction is built by moving one range after another into an empty pool. -/
theorem Store.compacted_pool : st.compacted.pool = presets.foldl st.moveRange [] := by rw [Store.compacted]; rfl

@[simp] theorem Store.compacted_hwm : st.compacted.hwm = st.held := by rw [Store.compacted]

@[simp] theorem Store.compacted_download : st.compacted.download = st.download := by rw [Store.compacted]

@[simp] theorem Store.compacted_recording : st.compacted.recording = st.recording := by rw [Store.compacted]

@[simp] theorem Store.compacted_compacting : st.compacted.compacting = false := by rw [Store.compacted]

theorem Store.compacted_entry (p : Preset) :
    st.compacted.entry p = if (st.entry p).owns then { st.entry p with first := st.movedFirst p } else st.entry p := by
  simp [Store.compacted, Store.entry, Store.movedDirectory]

/-- A compaction keeps every entry but for where its range begins. -/
theorem Store.compacted_entry_kept (p : Preset) :
    st.compacted.entry p = { st.entry p with first := (st.compacted.entry p).first } := by
  rw [Store.compacted_entry]
  split <;> rfl

theorem Store.compacted_first {p : Preset} (hp : (st.entry p).state ≠ .empty) :
    (st.compacted.entry p).first = st.movedFirst p := by
  rw [Store.compacted_entry, if_pos (by simp [DirEntry.owns, hp])]

theorem Store.Sound.compacted_keyframes (h : st.Sound) (p : Preset) : st.compacted.keyframes p = st.keyframes p := by
  have hcount : (st.compacted.entry p).count = (st.entry p).count := by rw [Store.compacted_entry_kept]
  unfold Store.keyframes
  rw [hcount]
  refine Pool.range_congr fun i hi => ?_
  have hp : (st.entry p).state ≠ .empty := fun he => by simp [h.count_empty he] at hi
  rw [Store.compacted_first hp, Store.compacted_pool]
  exact h.read_moved hp hi presets [] (.inl (mem_presets p))

/-! POOL_COMPACT and the completion (R20, R21, R23). -/

theorem compactAnswer_busy
    (hb : s.next.state ≠ .empty ∨ s.running.state ≠ .idle ∨ s.store.download ≠ none ∨ s.store.recording ≠ none ∨
      s.store.compacting = true) : compactAnswer s = s.answer .busy := by
  simp only [← Option.isSome_iff_ne_none] at hb
  exact if_pos hb

theorem compactAnswer_done
    (hb : ¬ (s.next.state ≠ .empty ∨ s.running.state ≠ .idle ∨ s.store.download ≠ none ∨ s.store.recording ≠ none ∨
      s.store.compacting = true)) :
    compactAnswer s = (s.setStore { s.store with compacting := true }).done [] := by
  simp only [← Option.isSome_iff_ne_none] at hb
  exact if_neg hb

theorem exec_compactionComplete (hrst : s.pins.rstn = true) (hc : s.store.compacting = true) :
    exec .compactionComplete s = .next s.completeCompaction :=
  congrArg Host.Outcome.next (if_pos ⟨hrst, hc⟩)

theorem State.completeCompaction_plain (hdue : s.store.rangeCheckDue = false) :
    s.completeCompaction = s.setStore s.store.compacted := by
  simp [State.completeCompaction, hdue]

theorem State.completeCompaction_due (hdue : s.store.rangeCheckDue = true) :
    s.completeCompaction =
      s.setStore { s.store.compacted.checkRanges s.record.lo s.record.hi with rangeCheckDue := false } := by
  simp [State.completeCompaction, hdue]

/-- Settles O59: the request by its condition, the completion by what the moved ranges hold. -/
theorem compactionClosesTheGaps : Obligations.CompactionClosesTheGaps := by
  refine ⟨fun h s hs => ?_, fun s hsound hrst hc hdue hd hr => ?_, fun s hrst hc hdue => ?_⟩
  · rw [exec_poolCompact hs]
    refine ⟨fun hb => ?_, fun hb => ?_⟩
    · rw [compactAnswer_busy (s := s.heard) hb]; rfl
    · rw [compactAnswer_done (s := s.heard) hb]; rfl
  · refine ⟨s.setStore s.store.compacted, ?_, rfl, ?_⟩
    · rw [exec_compactionComplete hrst hc, State.completeCompaction_plain hdue]
    rw [State.setStore_store]
    refine ⟨Store.compacted_compacting, Store.compacted_download.trans hd, Store.compacted_recording.trans hr,
      Store.compacted_hwm.trans hsound.store.held_eq, fun p => ⟨?_, ?_, fun hp => ?_⟩⟩
    · exact Store.compacted_entry_kept p
    · exact hsound.store.compacted_keyframes p
    · exact (Store.compacted_first hp).trans (hsound.store.movedFirst_eq_filter p)
  · rw [exec_compactionComplete hrst hc, State.completeCompaction_due hdue]

end Sys2Proof.Machine

/-! SUPPORT. The cue frames that fill and act on the cue slots: what each does at a station that its mask names, and when it is
a miss (R29, R31, R32, R35, R39 to R42). -/

namespace Sys2Proof.Machine

variable {s : State}

/-! A cue frame that is heard acts at a station of its mask only (R29). -/

theorem State.inMask_out {m : StationMask} {act : State → State} (hm : maskHas m s.own = false) :
    s.inMask m act = s := by
  simp [State.inMask, hm]

theorem State.arrive_unmasked {n : Station} {m : StationMask} {act : State → State} (hn : s.hears n)
    (hm : maskHas m s.own = false) : s.arrive n (State.inMask m act) = s.heard :=
  (State.arrive_heard hn).trans (State.inMask_out (s := s.heard) hm)

section Cued

variable {n : Station} {m : StationMask} (hc : s.cued n m) (id : Byte)
include hc

theorem exec_load (preset cond : Byte) :
    exec (.load n m id preset cond) s = .next (s.heard.actLoad id preset cond) :=
  congrArg Host.Outcome.next (State.arrive_cued hc)

theorem exec_seek : exec (.seek n m id) s = .next (s.heard.actSeek id) :=
  congrArg Host.Outcome.next (State.arrive_cued hc)

theorem exec_go : exec (.go n m id) s = .next (s.heard.actGo m id) :=
  congrArg Host.Outcome.next (State.arrive_cued hc)

theorem exec_stop : exec (.stop n m id) s = .next (s.heard.actStop id) :=
  congrArg Host.Outcome.next (State.arrive_cued hc)

theorem exec_hold : exec (.hold n m id) s = .next (s.heard.actHold id) :=
  congrArg Host.Outcome.next (State.arrive_cued hc)

theorem exec_release : exec (.release n m id) s = .next (s.heard.actRelease id) :=
  congrArg Host.Outcome.next (State.arrive_cued hc)

theorem exec_loopEnd : exec (.loopEnd n m id) s = .next (s.heard.actLoopEnd id) :=
  congrArg Host.Outcome.next (State.arrive_cued hc)

end Cued

/-! LOAD (R31). -/

theorem startConditionOf_outOfRange {b : Byte} (hb : 2 ≤ b.toNat) : startConditionOf b = none := by
  rcases startCondition_cases b with ⟨-, h⟩ | ⟨c, rfl⟩
  · exact h
  · cases c <;> exact absurd hb (by decide)

theorem State.actLoad_loads {id : Byte} {p : Preset} {sc : StartCondition} (hid : id ≠ 255)
    (hout : s.halt.station ≠ .config) (hc : s.store.compacting = false) (hp : (s.store.entry p).state = .ready) :
    s.actLoad id (presetByte p) (startConditionCode sc) =
      s.setNext { state := .loaded, preset := p, cueId := id, condition := sc } := by
  unfold State.actLoad
  rw [presetOf_presetByte, startConditionOf_code]
  exact if_pos ⟨hout, by simp [hc], hp, hid⟩

theorem State.actLoad_miss {id preset cond : Byte}
    (hbad : 32 ≤ preset.toNat ∨ 2 ≤ cond.toNat ∨ id = 255 ∨ s.halt.station = .config ∨ s.store.compacting = true ∨
      (∃ p : Preset, preset = presetByte p ∧ (s.store.entry p).state ≠ .ready)) :
    s.actLoad id preset cond = s.countMiss := by
  unfold State.actLoad
  split
  · rename_i p sc hp hsc
    refine if_neg ?_
    rintro ⟨hout, hc, hready, hid⟩
    rcases hbad with hbad | hbad | hbad | hbad | hbad | ⟨q, rfl, hbad⟩
    · simp [presetOf_outOfRange hbad] at hp
    · simp [startConditionOf_outOfRange hbad] at hsc
    · exact hid hbad
    · exact hout hbad
    · exact hc hbad
    · rw [presetOf_presetByte] at hp
      cases hp
      exact hbad hready
  · rfl

/-! SEEK (R32). -/

theorem State.actSeek_accepted {id : Byte} (hid : id ≠ 255) (hrun : s.halt.station = .run)
    (hidle : s.running.state = .idle) (hnext : s.next.state ≠ .empty) (hname : s.next.cueId = id) :
    s.actSeek id = if s.next.state = .loaded then s.setNext { s.next with state := .seeking } else s :=
  if_pos ⟨hrun, hidle, hnext, hname, hid⟩

theorem State.actSeek_miss {id : Byte}
    (hbad : id = 255 ∨ s.halt.station ≠ .run ∨ s.running.state ≠ .idle ∨ s.next.state = .empty ∨ s.next.cueId ≠ id) :
    s.actSeek id = s.countMiss := by
  refine if_neg ?_
  rintro ⟨hrun, hidle, hnext, hname, hid⟩
  rcases hbad with hbad | hbad | hbad | hbad | hbad
  · exact hid hbad
  · exact hbad hrun
  · exact hbad hidle
  · exact hnext hbad
  · exact hbad hname

/-- Settles O34, by the outcomes of the two frames. -/
theorem loadAndSeekFillNext : Obligations.LoadAndSeekFillNext := by
  refine ⟨fun n m id preset cond s hc => ?_, fun n m id s hc => ?_⟩
  · rw [exec_load hc]
    refine ⟨?_, fun hbad => congrArg _ (State.actLoad_miss (s := s.heard) hbad)⟩
    rintro p sc rfl rfl hid hout hcomp hp
    exact congrArg _ (State.actLoad_loads (s := s.heard) hid hout hcomp hp)
  · rw [exec_seek hc]
    refine ⟨fun hid hrun hidle hname => ⟨fun hl => ?_, fun hs => ?_⟩,
      fun hbad => congrArg _ (State.actSeek_miss (s := s.heard) hbad)⟩
    · rw [State.actSeek_accepted (s := s.heard) hid hrun hidle (by simp [hl]) hname]
      exact congrArg _ (if_pos hl)
    · rw [State.actSeek_accepted (s := s.heard) hid hrun hidle (by rcases hs with hs | hs <;> simp [hs]) hname]
      exact congrArg _ (if_neg (by rcases hs with hs | hs <;> simp [hs]))

/-! GO (R35 to R38). -/

theorem State.actGo_starts {m : StationMask} {id : Byte} (hid : id ≠ 255) (hrun : s.halt.station = .run)
    (hnext : s.next.state ≠ .empty) (hname : s.next.cueId = id) : s.actGo m id = s.startCue m :=
  if_pos ⟨hrun, hnext, hname, hid⟩

theorem State.actGo_miss {m : StationMask} {id : Byte}
    (hbad : id = 255 ∨ s.halt.station ≠ .run ∨ s.next.state = .empty ∨ s.next.cueId ≠ id) :
    s.actGo m id = s.countMiss := by
  refine if_neg ?_
  rintro ⟨hrun, hnext, hname, hid⟩
  rcases hbad with hbad | hbad | hbad | hbad
  · exact hid hbad
  · exact hbad hrun
  · exact hnext hbad
  · exact hbad hname

/-- The setpoint lies outside the start window exactly where R37 says. -/
theorem State.outsideWindow_eq (p : Preset) : s.outsideWindow p =
    decide (s.record.startWindow * 65536 < (s.blend.x - s.store.startPosition p).natAbs) := rfl

/-- What GO and FOLLOW leave is the slot that `startedSlot` names, NEXT EMPTY, and the take target at 0 (R36, R37, R55). -/
theorem State.cueStarted_iff {t : State} {m : StationMask} :
    s.cueStarted t m ↔
      t.running = s.startedSlot m ∧ t.next = NextSlot.empty ∧ t.blend = { s.blend with taking := false } := by
  simp only [State.startedSlot, State.outsideWindow_eq, decide_eq_true_eq]
  rfl

/-- The start of a cue reads the setpoint, the store, the record and NEXT, and writes the slots and the blend. -/
theorem State.startCue_eq (m : StationMask) :
    s.startCue m = ((s.setRunning (s.startCue m).running).setNext (s.startCue m).next).setBlend
      (s.startCue m).blend := rfl

/-- Settles O35: the start of a cue reads nothing that the counting of the arrival changes. -/
theorem goStartsTheCue : Obligations.GoStartsTheCue := by
  intro n m id s hc
  rw [exec_go hc]
  refine ⟨fun hid hrun hnext hname => ?_, fun hbad => congrArg _ (State.actGo_miss (s := s.heard) hbad)⟩
  rw [State.actGo_starts (s := s.heard) hid hrun hnext hname]
  exact ⟨s.heard.startCue m, rfl, State.cueStarted_iff.mpr ⟨rfl, rfl, rfl⟩, State.startCue_eq m⟩

/-! STOP, HOLD, RELEASE and LOOP_END (R39 to R42). -/

theorem RunningSlot.named_iff (r : RunningSlot) (id : Byte) :
    r.named id = true ↔ r.state ≠ .idle ∧ (id = 255 ∨ r.cueId = id) := by
  simp [RunningSlot.named]

/-- The four frames are accepted under one condition. -/
theorem State.running_named_iff (id : Byte) :
    (s.halt.station = .run ∧ s.running.named id = true) ↔
      ¬ (s.halt.station ≠ .run ∨ s.running.state = .idle ∨ id ≠ 255 ∧ s.running.cueId ≠ id) := by
  rw [RunningSlot.named_iff]
  tauto

/-- Settles O36, by the condition that the four frames share. -/
theorem runningCueFrames : Obligations.RunningCueFrames := by
  intro n m id s hc
  rw [exec_stop hc, exec_hold hc, exec_release hc, exec_loopEnd hc]
  refine ⟨fun hrun hplays hname => ?_, fun hbad => ?_⟩
  · have hok : s.halt.station = .run ∧ s.running.named id = true :=
      ⟨hrun, (RunningSlot.named_iff _ _).mpr ⟨hplays, hname⟩⟩
    exact ⟨congrArg _ (if_pos hok), congrArg _ (if_pos hok), congrArg _ (if_pos hok), congrArg _ (if_pos hok)⟩
  · have hno := mt (State.running_named_iff (s := s) id).mp (not_not.mpr hbad)
    exact ⟨congrArg _ (if_neg hno), congrArg _ (if_neg hno), congrArg _ (if_neg hno), congrArg _ (if_neg hno)⟩

/-! Masks, and CONFIG (R29). -/

/-- Settles O33: the arms of the nine cue frames go one path, and each act is a miss in CONFIG. -/
theorem cueFrameMissesAndMasks : Obligations.CueFrameMissesAndMasks := by
  refine ⟨fun s => rfl, fun n m a b d c s hn hmem => ⟨fun hout => ?_, fun hin hconf => ?_⟩⟩
  · have hmiss : ∀ act, Host.Outcome.next (s.arrive n (State.inMask m act)) =
        (.next s.heard : Host.Outcome State Fault Refusal) := fun act => congrArg _ (State.arrive_unmasked hn hout)
    simp only [List.mem_cons, List.not_mem_nil, or_false] at hmem
    rcases hmem with rfl | rfl | rfl | rfl | rfl | rfl | rfl | rfl | rfl <;> exact hmiss _
  · have hc : s.cued n m := ⟨hn, hin⟩
    have hrun : s.halt.station ≠ .run := by simp [hconf]
    have hno : ¬ (s.halt.station = .run ∧ s.running.named a = true) := fun h => hrun h.1
    simp only [List.mem_cons, List.not_mem_nil, or_false] at hmem
    rcases hmem with rfl | rfl | rfl | rfl | rfl | rfl | rfl | rfl | rfl
    · rw [exec_load hc, State.actLoad_miss (s := s.heard) (.inr (.inr (.inr (.inl hconf))))]
    · rw [exec_seek hc, State.actSeek_miss (s := s.heard) (.inr (.inl hrun))]
    · rw [exec_go hc, State.actGo_miss (s := s.heard) (.inr (.inl hrun))]
    · rw [exec_stop hc]; exact congrArg _ (if_neg hno)
    · rw [exec_hold hc]; exact congrArg _ (if_neg hno)
    · rw [exec_release hc]; exact congrArg _ (if_neg hno)
    · rw [exec_loopEnd hc]; exact congrArg _ (if_neg hno)
    · rw [exec_recStart hc, State.actRecStart_miss (s := s.heard) (.inr (.inr (.inl hrun)))]
    · rw [exec_recStop hc, State.actRecStop_miss (s := s.heard) (.inl hrun)]

end Sys2Proof.Machine

/-! SUPPORT. The pace governor (R43, R44, R48 to R52, R103), and what an expiry in RUN leaves of the RUNNING slot. -/

namespace Sys2Proof.Machine

variable {s : State}

/-! The smallest over some of a list (R50). -/

/-- A fold that takes the smaller at some members ends at or below its start and each of their values, and at one of them. -/
theorem foldl_min_spec {α : Type} (p : α → Bool) (f : α → Nat) (l : List α) : ∀ a : Nat,
    let m := l.foldl (fun m n => if p n then min m (f n) else m) a
    m ≤ a ∧ (∀ n ∈ l, p n = true → m ≤ f n) ∧ (m = a ∨ ∃ n ∈ l, p n = true ∧ m = f n) := by
  induction l with
  | nil => intro a; simp
  | cons b l ih =>
    intro a
    rw [List.foldl_cons]
    obtain ⟨hstart, hall, hsome⟩ := ih (if p b then min a (f b) else a)
    have hle : (if p b then min a (f b) else a) ≤ a := by split <;> omega
    refine ⟨hstart.trans hle, fun n hn hp => ?_, ?_⟩
    · rcases List.mem_cons.mp hn with rfl | hn
      · rw [if_pos hp] at hstart ⊢
        omega
      · exact hall n hn hp
    · rcases hsome with hsome | ⟨n, hn, hp, he⟩
      · by_cases hp : p b = true
        · rw [if_pos hp] at hsome ⊢
          rcases Nat.le_total a (f b) with h | h
          · exact .inl (hsome.trans (Nat.min_eq_left h))
          · exact .inr ⟨b, List.mem_cons_self .., hp, hsome.trans (Nat.min_eq_right h)⟩
        · rw [if_neg hp] at hsome ⊢
          exact .inl hsome
      · exact .inr ⟨n, List.mem_cons_of_mem _ hn, hp, he⟩

theorem mem_stations (n : Station) : n ∈ stations := by revert n; decide

theorem any_stations_iff (p : Station → Bool) : stations.any p = true ↔ ∃ n, p n = true := by
  simp [List.any_eq_true, mem_stations]

/-! Abilities and the pace (R48, R50, R51). -/

theorem abilityFor_le (demand rate : Nat) : abilityFor demand rate ≤ 65536 := by
  unfold abilityFor
  split
  · exact le_refl _
  · rename_i h
    have : 65536 * rate / demand ≤ 65536 := Nat.div_le_of_le_mul (by rw [Nat.mul_comm]; gcongr; omega)
    omega

theorem abilityFor_ge (demand rate : Nat) : 1024 ≤ abilityFor demand rate := by
  unfold abilityFor
  split <;> omega

theorem State.ownAbility_held (h : s.running.state = .held) : s.ownAbility = 0 := if_pos h

theorem State.ownAbility_playing (h : s.running.state = .playing) : s.ownAbility = abilityFor s.demand s.cueRate :=
  if_neg (by simp [h])

theorem State.ownAbility_le : s.ownAbility ≤ 65536 := by
  unfold State.ownAbility
  split
  · exact Nat.zero_le _
  · exact abilityFor_le _ _

/-- The governed pace is the least of the own ability and the participants' (R50). -/
theorem State.governed_spec :
    s.governed ≤ s.ownAbility ∧
    (∀ n, s.participant n = true → s.governed ≤ s.peers.records[n].report.ability) ∧
    (s.governed = s.ownAbility ∨ ∃ n, s.participant n = true ∧ s.governed = s.peers.records[n].report.ability) := by
  obtain ⟨hown, hall, hsome⟩ :=
    foldl_min_spec s.participant (fun n => s.peers.records[n].report.ability) stations s.ownAbility
  exact ⟨hown, fun n => hall n (mem_stations n), hsome.imp_right fun ⟨n, _, h⟩ => ⟨n, h⟩⟩

theorem State.leads_iff : s.leads = true ↔ ∃ n : Station, s.participant n = true ∧
    s.peers.records[n].report.cueTime + s.peers.records[n].age * s.peers.records[n].report.ability / 65536 + 4 <
      s.running.cueTime / 65536 := by
  rw [State.leads, any_stations_iff]
  simp only [Bool.and_eq_true, decide_eq_true_eq]
  rfl

theorem State.pace_leading (h : s.leads = true) : s.pace = 0 := if_pos h

theorem State.pace_free (h : ¬ s.leads = true) : s.pace = s.governed := if_neg h

theorem State.pace_le_governed : s.pace ≤ s.governed := by
  unfold State.pace
  split <;> omega

theorem State.pace_le_ownAbility : s.pace ≤ s.ownAbility := State.pace_le_governed.trans State.governed_spec.1

/-! Who is a participant, and who is lost (R49, R52, R103). -/

theorem PeerRecord.fresh_iff (q : PeerRecord) : q.fresh = true ↔ q.present = true ∧ q.age ≤ 8 := by
  simp [PeerRecord.fresh]

theorem CueState.ne_idle_iff (c : CueState) : c ≠ .idle ↔ c = .playing ∨ c = .held := by cases c <;> decide

theorem State.participant_iff (n : Station) : s.participant n = true ↔
    s.running.participants.getLsbD n.val = true ∧ n ≠ s.own ∧ s.running.seen.getLsbD n.val = true ∧
    s.peers.records[n].present = true ∧ s.peers.records[n].age ≤ 8 ∧
    s.peers.records[n].report.cueId = s.running.cueId ∧
    (s.peers.records[n].report.cueState = .playing ∨ s.peers.records[n].report.cueState = .held) ∧
    s.peers.records[n].report.controlPeriod = s.record.controlPeriod ∧ s.peers.records[n].mismatch = false := by
  simp [State.participant, maskHas, PeerRecord.fresh_iff, ← CueState.ne_idle_iff, and_assoc]

theorem State.lost_iff (n : Station) : s.lost n = true ↔
    s.running.participants.getLsbD n.val = true ∧ n ≠ s.own ∧ s.peers.records[n].mismatch = false ∧
    (s.peers.records[n].present = false ∨ 8 < s.peers.records[n].age ∨ s.running.seen.getLsbD n.val = false) := by
  simp [State.lost, maskHas, PeerRecord.fresh, and_assoc, or_assoc]

/-! The cue engine's work before the blend (R43, R44). -/

theorem State.cueExpiry_idle (h : s.running.state = .idle) : s.cueExpiry = s := if_pos h

theorem State.cueExpiry_running (h : s.running.state ≠ .idle) : s.cueExpiry.running =
    { s.running with
      ability := s.ownAbility, paceEff := s.pace, peerLost := stations.any s.lost, cueTime := s.advancedTime s.pace,
      freshStart := false } := congrArg State.running (if_neg h)

/-- The work of the running cue at an expiry touches these five fields of its slot only. -/
theorem State.cueExpiry_keeps : s.cueExpiry.running =
    { s.running with
      ability := s.cueExpiry.running.ability, paceEff := s.cueExpiry.running.paceEff,
      peerLost := s.cueExpiry.running.peerLost, cueTime := s.cueExpiry.running.cueTime,
      freshStart := s.cueExpiry.running.freshStart } := by
  by_cases h : s.running.state = .idle
  · rw [State.cueExpiry_idle h]
  · rw [State.cueExpiry_running h]

theorem State.advancedTime_fresh (pace : Nat) (h : s.running.freshStart = true) : s.advancedTime pace = 0 := if_pos h

theorem State.advancedTime_moving (pace : Nat) (h : s.running.freshStart = false) : s.advancedTime pace =
    min (s.running.cueTime + pace)
      (((s.store.keyframes s.running.preset).getLastD Keyframe.blank).time * 65536) := if_neg (by simp [h])

/-! The blend's work on the RUNNING slot: the weights and offsets of the modes only (R61 to R67). -/

theorem modeStep_keeps (r : StartRecord) (sup : Supply) (p : Int) (taking : Bool) (run : RunningSlot) :
    modeStep r sup p taking run =
      { run with
        trimOffset := (modeStep r sup p taking run).trimOffset, handback := (modeStep r sup p taking run).handback,
        takeWeight := (modeStep r sup p taking run).takeWeight, shadow := (modeStep r sup p taking run).shadow } := by
  unfold modeStep
  split <;> rfl

/-- What the blend leaves of the RUNNING slot: all but trim offset, handback count, weights and shadow. -/
theorem State.blendRun_keeps (sup : Supply) : (s.blendRun sup).running =
    { s.running with
      trimOffset := (s.blendRun sup).running.trimOffset, handback := (s.blendRun sup).running.handback,
      takeWeight := (s.blendRun sup).running.takeWeight, shadow := (s.blendRun sup).running.shadow,
      catchWeight := (s.blendRun sup).running.catchWeight } := by
  unfold State.blendRun
  split
  · rfl
  · rfl
  · dsimp only [State.setBlend_running, State.setRunning_running, catchStep]
    rw [modeStep_keeps]

theorem State.blendRun_idle (sup : Supply) (h : s.running.state = .idle) : (s.blendRun sup).running = s.running := by
  unfold State.blendRun
  split
  · rfl
  · rfl
  · rename_i hs
    unfold State.source at hs
    rw [if_neg (not_not.mpr h)] at hs
    split at hs <;> cases hs

/-! The state with the setpoint stored, before its readers (R56). -/

theorem State.storedSetpoint_eq : s.storedSetpoint = s.ageExpiry.cueExpiry.blendRun s.stickSupply := rfl

theorem State.storedSetpoint_others :
    s.storedSetpoint = (s.ageExpiry.setRunning s.storedSetpoint.running).setBlend s.storedSetpoint.blend :=
  State.computeRun_eq _

@[simp] theorem State.storedSetpoint_next : s.storedSetpoint.next = s.next := by
  rw [State.storedSetpoint_others]; simp

@[simp] theorem State.storedSetpoint_halt : s.storedSetpoint.halt = s.halt := by
  rw [State.storedSetpoint_others]; simp

@[simp] theorem State.storedSetpoint_start : s.storedSetpoint.start = s.start := by
  rw [State.storedSetpoint_others]; simp

theorem State.storedSetpoint_running : s.storedSetpoint.running =
    { s.ageExpiry.cueExpiry.running with
      trimOffset := s.storedSetpoint.running.trimOffset, handback := s.storedSetpoint.running.handback,
      takeWeight := s.storedSetpoint.running.takeWeight, shadow := s.storedSetpoint.running.shadow,
      catchWeight := s.storedSetpoint.running.catchWeight } := State.blendRun_keeps _

/-- What a pass carries on stands through the cue engine and the blend. -/
theorem State.storedSetpoint_pass :
    s.storedSetpoint.running.state = s.running.state ∧ s.storedSetpoint.running.preset = s.running.preset ∧
    s.storedSetpoint.running.cueId = s.running.cueId ∧ s.storedSetpoint.running.cycle = s.running.cycle ∧
    s.storedSetpoint.running.participants = s.running.participants ∧
    s.storedSetpoint.running.seen = s.running.seen ∧
    s.storedSetpoint.running.passesLeft = s.running.passesLeft := by
  rw [State.storedSetpoint_running, State.cueExpiry_keeps, State.ageExpiry_running]
  exact ⟨rfl, rfl, rfl, rfl, rfl, rfl, rfl⟩

theorem State.storedSetpoint_idle (h : s.running.state = .idle) : s.storedSetpoint.running = s.running := by
  have ha : s.ageExpiry.running.state = .idle := by rw [State.ageExpiry_running]; exact h
  rw [State.storedSetpoint_eq, State.cueExpiry_idle ha, State.blendRun_idle _ ha, State.ageExpiry_running]

/-! The readers of the stored setpoint (R13, R33, R45). -/

theorem State.recordExpiry_none (h : s.store.recording = none) : s.recordExpiry = s := by
  simp [State.recordExpiry, h]

@[simp] theorem State.recordExpiry_running : s.recordExpiry.running = s.running := by rw [State.recordExpiry_eq]; rfl
@[simp] theorem State.recordExpiry_next : s.recordExpiry.next = s.next := by rw [State.recordExpiry_eq]; rfl
@[simp] theorem State.recordExpiry_blend : s.recordExpiry.blend = s.blend := by rw [State.recordExpiry_eq]; rfl
@[simp] theorem State.recordExpiry_record : s.recordExpiry.record = s.record := by rw [State.recordExpiry_eq]; rfl

/-- A download and a recording are never in progress together: both ranges would end at HWM (R2, R3). -/
theorem Store.Sound.download_none {st : Store} (h : st.Sound) {r : Recording} (hr : st.recording = some r) :
    st.download = none := by
  cases hd : st.download with
  | none => rfl
  | some d =>
    have hrec := h.recorder r hr
    have hload := (h.download d hd).1
    obtain ⟨hcount, hend, -⟩ := h.recording r.preset hrec
    obtain ⟨hcount', hend', -⟩ := h.loading d.preset hload
    have hne : r.preset ≠ d.preset := Store.ne_of_state (by rw [hrec, hload]; decide)
    rcases h.apart _ _ hne (by rw [hrec]; decide) (by rw [hload]; decide) with hap | hap <;> omega

/-- The ageing of an expiry keeps every READY preset (R10). -/
theorem State.storedSetpoint_ready (h : s.store.Sound) {p : Preset} (hp : (s.store.entry p).state = .ready) :
    s.storedSetpoint.store.entry p = s.store.entry p ∧
    s.storedSetpoint.store.keyframes p = s.store.keyframes p := by
  have hstore : s.storedSetpoint.store = s.downloadExpiry.store := by
    rw [State.storedSetpoint_others]
    exact State.ageExpiry_store
  rw [hstore]
  unfold State.downloadExpiry
  split
  · exact ⟨rfl, rfl⟩
  · split
    · exact h.discardDownload_ready hp
    · exact ⟨rfl, rfl⟩

/-- The recording's work of the same expiry keeps every READY preset as well (R13, R14). -/
theorem State.storedSetpoint_recorded (h : s.store.Sound) {p : Preset} (hp : (s.store.entry p).state = .ready) :
    s.storedSetpoint.recordExpiry.store.entry p = s.storedSetpoint.store.entry p ∧
    s.storedSetpoint.recordExpiry.store.keyframes p = s.storedSetpoint.store.keyframes p := by
  cases hr : s.store.recording with
  | some r =>
    have hstore := State.storedSetpoint_store (h.download_none hr)
    rw [← hstore] at h hp
    exact State.recordExpiry_ready h hp
  | none =>
    have hnone : s.storedSetpoint.store.recording = none := by
      rw [State.storedSetpoint_others]
      change s.ageExpiry.store.recording = none
      rw [State.ageExpiry_store, State.downloadExpiry]
      split
      · exact hr
      · split
        · unfold Store.discardDownload
          split <;> exact hr
        · exact hr
    rw [State.recordExpiry_none hnone]
    exact ⟨rfl, rfl⟩

/-- The first position of a preset is that of its entry and its keyframes (R25). -/
theorem Store.startPosition_congr {st st' : Store} {p : Preset} (he : st'.entry p = st.entry p)
    (hk : st'.keyframes p = st.keyframes p) (hcount : 1 ≤ (st.entry p).count) :
    st'.startPosition p = st.startPosition p := by
  unfold Store.keyframes Pool.range at hk
  rw [he] at hk
  have h0 := List.map_inj_left.mp hk 0 (List.mem_range.mpr hcount)
  rw [Nat.add_zero] at h0
  rw [Store.startPosition, Store.startPosition, he, h0]

/-- What an expiry in RUN stores of the slots, the blend and the store, where its handover raises no DRIVE_LOST. -/
theorem State.expiry_run (hrun : s.halt.station = .run) (hq : s.handsOverQuietly) :
    s.expiry.running = s.storedSetpoint.readSetpoint.running ∧ s.expiry.next = s.storedSetpoint.readSetpoint.next ∧
    s.expiry.blend = s.storedSetpoint.readSetpoint.blend ∧
    s.expiry.store = s.storedSetpoint.recordExpiry.store ∧ s.expiry.halt = s.halt ∧ s.expiry.start = s.start := by
  obtain ⟨hstore, hnext, hrunning, hblend, -, hhalt, hstart, -⟩ := State.expiry_quiet hq
  obtain ⟨-, -, -, -, -, -, khalt, -, kstart, -⟩ := State.readSetpoint_frame (s := s.storedSetpoint)
  rw [State.computed_run hrun] at hstore hnext hrunning hblend hhalt hstart
  exact ⟨hrunning, hnext, hblend, hstore.trans State.readSetpoint_store,
    hhalt.trans (khalt.trans State.storedSetpoint_halt), hstart.trans (kstart.trans State.storedSetpoint_start)⟩

theorem State.timerRuns_run (hrst : s.pins.rstn = true) (hrun : s.halt.station = .run) : s.timerRuns = true := by
  simp [State.timerRuns, hrst, hrun]

theorem exec_controlPeriodExpiry (h : s.timerRuns = true) : exec .controlPeriodExpiry s = .next s.expiry :=
  congrArg Host.Outcome.next (if_pos h)

/-! The end of a pass (R45). -/

theorem State.atPassEnd_congr {t : State} (hrun : t.running = s.running)
    (hk : t.store.keyframes s.running.preset = s.store.keyframes s.running.preset) : t.atPassEnd = s.atPassEnd := by
  rw [State.atPassEnd, State.atPassEnd, hrun, hk]

theorem State.StoreSound.running_ready (h : s.StoreSound) (hs : s.running.state ≠ .idle) :
    (s.store.entry s.running.preset).state = .ready :=
  h.referenced _ (by simp [State.referenced, hs])

theorem State.StoreSound.next_ready (h : s.StoreSound) (hs : s.next.state ≠ .empty) :
    (s.store.entry s.next.preset).state = .ready :=
  h.referenced _ (by simp [State.referenced, hs])

/-- With a cue that plays the readers are the recording's work and the test for the end of the pass, which asks for the pass
end that PASS_END names. -/
theorem State.readSetpoint_playing (h : s.StoreSound) (hrst : s.pins.rstn = true) (hrun : s.halt.station = .run)
    (hs : s.running.state ≠ .idle) :
    s.storedSetpoint.readSetpoint =
      if s.passEnds then s.storedSetpoint.recordExpiry.endPass else s.storedSetpoint.recordExpiry := by
  have hpass : s.passEnds = s.storedSetpoint.recordExpiry.atPassEnd := by
    rw [State.atPassEnd_congr (s := s.storedSetpoint) State.recordExpiry_running]
    · simp [State.passEnds, State.timerRuns_run hrst hrun, hrun]
    · rw [State.storedSetpoint_pass.2.1]
      exact (State.storedSetpoint_recorded h.store (h.running_ready hs)).2
  have hplays : s.storedSetpoint.recordExpiry.running.state ≠ .idle := by
    rw [State.recordExpiry_running, State.storedSetpoint_pass.1]
    exact hs
  rw [hpass]
  exact if_neg hplays

/-- A pass that restarts keeps what the cue engine stored but for the passes, T and the catch-in. -/
theorem State.endPass_restarts (h : s.running.cycle = true ∨ 1 < s.running.passesLeft) :
    s.endPass = s.restartPass := if_pos h

/-- After an expiry that does not end the cue the slot holds what the cue engine's work stored. -/
theorem State.expiry_running_kept (h : s.StoreSound) (hrst : s.pins.rstn = true) (hrun : s.halt.station = .run)
    (hs : s.running.state ≠ .idle) (hq : s.handsOverQuietly)
    (hpass : s.passEnds = false ∨ s.running.cycle = true ∨ 1 < s.running.passesLeft) :
    s.expiry.running =
      { s.storedSetpoint.running with
        passesLeft := s.expiry.running.passesLeft, cueTime := s.expiry.running.cueTime,
        freshStart := s.expiry.running.freshStart, catchWeight := s.expiry.running.catchWeight,
        catchOrigin := s.expiry.running.catchOrigin } := by
  obtain ⟨-, -, -, hcycle, -, -, hleft⟩ := State.storedSetpoint_pass (s := s)
  rw [(State.expiry_run hrun hq).1, State.readSetpoint_playing h hrst hrun hs]
  split
  · rename_i hend
    rw [State.endPass_restarts (by simpa [hend, hcycle, hleft] using hpass)]
    simp [State.restartPass]
  · simp

/-- Settles O26: the fold of the governor, and the slot as the expiry's later work leaves it. -/
theorem paceIsGoverned : Obligations.PaceIsGoverned := by
  refine ⟨fun s hs => ?_, fun s n => ⟨State.participant_iff n, State.lost_iff n⟩, fun s => ⟨rfl, rfl⟩,
    fun s hrst hrun hs => ?_⟩
  · obtain ⟨-, hall, hsome⟩ := State.governed_spec (s := s)
    intro t
    have ht : t.running = _ := State.cueExpiry_running hs
    rw [ht, ← State.leads_iff]
    refine ⟨fun hheld => ?_, fun hplay => ?_, State.pace_le_ownAbility,
      fun n hn => State.pace_le_governed.trans (hall n hn), State.pace_leading, fun hfree => ?_, any_stations_iff _,
      State.advancedTime_fresh _, State.advancedTime_moving _, rfl⟩
    · have h0 := State.ownAbility_held hheld
      exact ⟨h0, Nat.le_zero.mp (h0 ▸ State.pace_le_ownAbility)⟩
    · have ha := State.ownAbility_playing hplay
      exact ⟨ha, ha ▸ abilityFor_ge _ _⟩
    · exact (State.pace_free hfree).symm ▸ hsome
  · refine ⟨s.expiry, exec_controlPeriodExpiry (State.timerRuns_run hrst hrun), State.ageExpiry_running,
      State.ageExpiry_start, ?_, ?_, fun hsound hq hpass => ?_⟩
    · rw [State.ageExpiry, State.downloadExpiry_link]; rfl
    · rw [State.ageExpiry_peers, State.expiry_frame.2.2.2.1]
    · obtain ⟨hstate, -, -, -, hparts, hseen, -⟩ := State.storedSetpoint_pass (s := s)
      have hkept := State.expiry_running_kept hsound hrst hrun hs hq hpass
      rw [hkept, hstate, hparts, hseen]
      refine ⟨by rw [State.storedSetpoint_running], by rw [State.storedSetpoint_running],
        by rw [State.storedSetpoint_running], rfl, rfl, rfl, fun hno => ?_⟩
      rw [(State.expiry_run hrun hq).1, State.readSetpoint_playing hsound hrst hrun hs, if_neg (by simp [hno]),
        State.recordExpiry_running, State.storedSetpoint_running]
      refine ⟨rfl, ?_⟩
      rw [State.cueExpiry_running (by rw [State.ageExpiry_running]; exact hs)]

end Sys2Proof.Machine

/-! SUPPORT. The readers of the stored setpoint: the completion of a seek (R33) and the end of a pass (R45 to R47). -/

namespace Sys2Proof.Machine

variable {s : State}

/-! Where a READY preset begins stands through an expiry. -/

/-- Neither the ageing nor the recording's work of an expiry moves the first position of a READY preset. -/
theorem State.storedSetpoint_startPosition (h : s.store.Sound) {p : Preset} (hp : (s.store.entry p).state = .ready) :
    s.storedSetpoint.store.startPosition p = s.store.startPosition p ∧
    s.storedSetpoint.recordExpiry.store.startPosition p = s.storedSetpoint.store.startPosition p := by
  have hcount := h.count_pos (p := p) (by simp [hp])
  obtain ⟨he, hk⟩ := State.storedSetpoint_ready h hp
  obtain ⟨he', hk'⟩ := State.storedSetpoint_recorded h hp
  exact ⟨Store.startPosition_congr he hk hcount, Store.startPosition_congr he' hk' (by rw [he]; exact hcount)⟩

/-! The seek test (R33). -/

theorem State.seekPasses_iff : s.seekPasses = true ↔
    s.running.state = .idle ∧ s.next.state = .seeking ∧
    (s.blend.x - s.store.startPosition s.next.preset).natAbs ≤ s.record.startWindow * 65536 ∧
    s.blend.v.natAbs ≤ s.record.amax := by
  simp [State.seekPasses, and_assoc]

/-- The recording's work of an expiry does not change the outcome of the seek test. -/
theorem State.recordExpiry_seekPasses (h : s.StoreSound) (hs : s.next.state = .seeking) :
    s.storedSetpoint.recordExpiry.seekPasses = s.storedSetpoint.seekPasses := by
  have hp := (State.storedSetpoint_startPosition h.store (h.next_ready (by simp [hs]))).2
  rw [Bool.eq_iff_iff, State.seekPasses_iff, State.seekPasses_iff]
  simp [hp]

theorem State.seekTest_next : s.seekTest.next = if s.seekPasses then { s.next with state := .ready } else s.next := by
  unfold State.seekTest
  split <;> rfl

theorem State.seekTest_others : s.seekTest = s.setNext s.seekTest.next := by
  unfold State.seekTest
  split <;> rfl

/-- What an expiry in RUN with NEXT SEEKING stores: the test of the stored setpoint decides NEXT. -/
theorem State.expiry_seeking (h : s.StoreSound) (hrun : s.halt.station = .run) (hidle : s.running.state = .idle)
    (hs : s.next.state = .seeking) (hq : s.handsOverQuietly) :
    s.expiry.next = (if s.storedSetpoint.seekPasses then { s.next with state := .ready } else s.next) ∧
    s.expiry.running = s.running ∧ s.expiry.blend = s.storedSetpoint.blend ∧
    s.expiry.store.startPosition s.next.preset = s.storedSetpoint.store.startPosition s.next.preset := by
  obtain ⟨hrunning, hnext, hblend, hstore, -, -⟩ := State.expiry_run hrun hq
  have hread : s.storedSetpoint.readSetpoint = s.storedSetpoint.recordExpiry.seekTest :=
    if_pos (by rw [State.recordExpiry_running, State.storedSetpoint_idle hidle]; exact hidle)
  rw [hread] at hrunning hnext hblend
  refine ⟨?_, ?_, ?_, ?_⟩
  · rw [hnext, State.seekTest_next, State.recordExpiry_seekPasses h hs, State.recordExpiry_next,
      State.storedSetpoint_next]
  · rw [hrunning, State.seekTest_others, State.setNext_running, State.recordExpiry_running,
      State.storedSetpoint_idle hidle]
  · rw [hblend, State.seekTest_others, State.setNext_blend, State.recordExpiry_blend]
  · rw [hstore]
    exact (State.storedSetpoint_startPosition h.store (h.next_ready (by simp [hs]))).2

/-- The test as it reads in the state the expiry leaves. -/
theorem State.seekPasses_after (h : s.StoreSound) (hrun : s.halt.station = .run) (hidle : s.running.state = .idle)
    (hs : s.next.state = .seeking) (hq : s.handsOverQuietly) :
    s.storedSetpoint.seekPasses = true ↔
      (s.expiry.blend.x - s.expiry.store.startPosition s.next.preset).natAbs ≤ s.record.startWindow * 65536 ∧
      s.expiry.blend.v.natAbs ≤ s.record.amax := by
  obtain ⟨-, -, hblend, hstart⟩ := State.expiry_seeking h hrun hidle hs hq
  rw [State.seekPasses_iff, hblend, hstart, State.storedSetpoint_next, State.storedSetpoint_record,
    State.storedSetpoint_idle hidle]
  simp [hidle, hs]

theorem State.seekCompletes_run (hrst : s.pins.rstn = true) (hrun : s.halt.station = .run) :
    s.seekCompletes = s.storedSetpoint.seekPasses := by
  simp [State.seekCompletes, State.timerRuns_run hrst hrun, hrun]

theorem exec_seekCompletion : exec .seekCompletion s = .next (if s.seekCompletes then s.expiry else s) := rfl

/-- Settles O27, by the test on the setpoint that the expiry stores. -/
theorem seekCompletes : Obligations.SeekCompletes := by
  refine ⟨fun s h hc hpend => ?_, fun s h hrst hrun hidle hs hq => ?_⟩
  · have hq : s.handsOverQuietly := .inl hpend
    have hc' := hc
    simp only [State.seekCompletes, Bool.and_eq_true, decide_eq_true_eq] at hc'
    obtain ⟨⟨htimer, hrun⟩, hpasses⟩ := hc'
    obtain ⟨hidle, hs, -, -⟩ := State.seekPasses_iff.mp hpasses
    rw [State.storedSetpoint_pass.1] at hidle
    rw [State.storedSetpoint_next] at hs
    obtain ⟨hnext, hrunning, -, -⟩ := State.expiry_seeking h hrun hidle hs hq
    obtain ⟨hx, hv⟩ := (State.seekPasses_after h hrun hidle hs hq).mp hpasses
    obtain ⟨-, -, -, -, hhalt, hstart⟩ := State.expiry_run hrun hq
    refine ⟨s.expiry, ?_, exec_controlPeriodExpiry htimer, hs, ?_, hx, hv, hrunning, hhalt, hstart⟩
    · rw [exec_seekCompletion, if_pos hc]
    · rw [hnext, if_pos hpasses]
  · have hiff := State.seekPasses_after h hrun hidle hs hq
    obtain ⟨hnext, -, -, -⟩ := State.expiry_seeking h hrun hidle hs hq
    refine ⟨s.expiry, exec_controlPeriodExpiry (State.timerRuns_run hrst hrun), ?_⟩
    rw [exec_seekCompletion, State.seekCompletes_run hrst hrun, hnext]
    refine ⟨fun hx hv => ?_, fun hfail => ?_⟩
    · have hpasses := hiff.mpr ⟨hx, hv⟩
      exact ⟨if_pos hpasses, congrArg _ (if_pos hpasses)⟩
    · have hfails : ¬ s.storedSetpoint.seekPasses = true := fun hpasses => by
        obtain ⟨hx, hv⟩ := hiff.mp hpasses
        rcases hfail with hfail | hfail
        · exact absurd hx (Nat.not_le.mpr hfail)
        · exact absurd hv (Nat.not_le.mpr hfail)
      exact ⟨if_neg hfails, congrArg _ (if_neg hfails)⟩

/-! The end of a pass (R45 to R47). -/

theorem State.endPass_ends (h : ¬ (s.running.cycle = true ∨ 1 < s.running.passesLeft)) : s.endPass = s.endCue :=
  if_neg h

/-- The slot of a pass that restarts (R46). -/
theorem State.restartPass_running : s.restartPass.running =
    { s.running with
      passesLeft := if s.running.cycle then max 1 (s.running.passesLeft - 1) else s.running.passesLeft - 1
      cueTime := 0
      freshStart := true
      catchWeight := if s.outsideWindow s.running.preset then 4096 else 0
      catchOrigin := if s.outsideWindow s.running.preset then s.blend.x else s.running.catchOrigin } := rfl

theorem State.endCue_follow (h : s.next.state = .loaded ∧ s.next.condition = .follow) :
    s.endCue = s.idleCue.startCue s.running.participants := if_pos h

theorem State.endCue_plain (h : ¬ (s.next.state = .loaded ∧ s.next.condition = .follow)) : s.endCue = s.idleCue :=
  if_neg h

/-- The slot of a started cue rests on NEXT, the preset it names, the start window and the setpoint. -/
theorem State.startedSlot_congr {t : State} (m : StationMask) (hnext : t.next = s.next)
    (he : t.store.entry s.next.preset = s.store.entry s.next.preset)
    (hp : t.store.startPosition s.next.preset = s.store.startPosition s.next.preset) (hr : t.record = s.record)
    (hx : t.blend.x = s.blend.x) : t.startedSlot m = s.startedSlot m := by
  have haway : t.outsideWindow s.next.preset = s.outsideWindow s.next.preset := by
    rw [State.outsideWindow_eq, State.outsideWindow_eq, hr, hx, hp]
  simp only [State.startedSlot, hnext, he, hp, hx, haway]

/-- An expiry that ends a pass stores what the end of the pass leaves of the setpoint it has just stored and recorded. -/
theorem State.expiry_passEnds (h : s.StoreSound) (hp : s.passEnds = true) (hq : s.handsOverQuietly) :
    s.timerRuns = true ∧ s.halt.station = .run ∧ s.running.state ≠ .idle ∧
    s.expiry.running = s.storedSetpoint.recordExpiry.endPass.running ∧
    s.expiry.next = s.storedSetpoint.recordExpiry.endPass.next ∧
    s.expiry.blend = s.storedSetpoint.recordExpiry.endPass.blend ∧
    s.expiry.store = s.storedSetpoint.recordExpiry.store ∧ s.expiry.halt = s.halt := by
  have hp' := hp
  simp only [State.passEnds, State.atPassEnd, Bool.and_eq_true, decide_eq_true_eq] at hp'
  obtain ⟨⟨htimer, hrun⟩, hplays, -⟩ := hp'
  rw [State.storedSetpoint_pass.1] at hplays
  have hrst : s.pins.rstn = true := by
    simp only [State.timerRuns, Bool.and_eq_true] at htimer
    exact htimer.1
  obtain ⟨hrunning, hnext, hblend, hstore, hhalt, -⟩ := State.expiry_run hrun hq
  rw [State.readSetpoint_playing h hrst hrun hplays, if_pos hp] at hrunning hnext hblend
  exact ⟨htimer, hrun, hplays, hrunning, hnext, hblend, hstore, hhalt⟩

theorem exec_passEnd : exec .passEnd s = .next (if s.passEnds then s.expiry else s) := rfl

/-- Settles O28: the pass restarts or the cue ends, on the state with the setpoint stored. -/
theorem passEnds : Obligations.PassEnds := by
  intro s h hp hpend
  obtain ⟨htimer, -, -, hrunning, hnext, hblend, hstore, hhalt⟩ := State.expiry_passEnds h hp (.inl hpend)
  obtain ⟨hstate, hpreset, hid, hcycle, hparts, -, hleft⟩ := State.storedSetpoint_pass (s := s)
  refine ⟨s.expiry, by rw [exec_passEnd, if_pos hp], exec_controlPeriodExpiry htimer, fun hmore => ?_,
    fun hlast => ?_, hhalt⟩
  · rw [State.endPass_restarts (by rwa [State.recordExpiry_running, hcycle, hleft])] at hrunning hnext hblend
    have hnext' : s.expiry.next = s.next := hnext.trans (State.recordExpiry_next.trans State.storedSetpoint_next)
    have haway : s.storedSetpoint.recordExpiry.outsideWindow s.storedSetpoint.running.preset =
        decide (s.record.startWindow * 65536 <
          (s.expiry.blend.x - s.expiry.store.startPosition s.running.preset).natAbs) := by
      rw [State.outsideWindow_eq, State.recordExpiry_record, State.storedSetpoint_record, hblend, hstore, hpreset]
      rfl
    rw [hrunning, State.restartPass_running, State.recordExpiry_running, haway, hcycle, hleft]
    refine ⟨hnext', hstate, hid, hpreset, hparts, rfl, rfl, rfl, ?_⟩
    by_cases hx : s.record.startWindow * 65536 <
        (s.expiry.blend.x - s.expiry.store.startPosition s.running.preset).natAbs
    · have hb : s.storedSetpoint.recordExpiry.blend.x = s.expiry.blend.x := by rw [hblend]; rfl
      exact .inl ⟨if_pos (decide_eq_true hx), (if_pos (decide_eq_true hx)).trans hb, hx⟩
    · exact .inr ⟨if_neg (by simpa using hx), Nat.not_lt.mp hx⟩
  · rw [State.endPass_ends (by rwa [State.recordExpiry_running, hcycle, hleft])] at hrunning hnext hblend
    have hnext' : s.storedSetpoint.recordExpiry.next = s.next :=
      State.recordExpiry_next.trans State.storedSetpoint_next
    refine ⟨fun hfollow => ?_, fun hplain => ?_⟩
    · rw [State.endCue_follow (by rwa [hnext']), State.recordExpiry_running, hparts] at hrunning hnext hblend
      have hready := h.next_ready (by simp [hfollow.1])
      obtain ⟨hstart, hstart'⟩ := State.storedSetpoint_startPosition h.store hready
      have he := (State.storedSetpoint_recorded h.store hready).1.trans (State.storedSetpoint_ready h.store hready).1
      refine State.cueStarted_iff.mpr ⟨hrunning.trans ?_, hnext, ?_⟩
      · refine State.startedSlot_congr (s := s.setBlend s.expiry.blend) s.running.participants hnext' he
          (hstart'.trans hstart) (State.recordExpiry_record.trans State.storedSetpoint_record) ?_
        rw [State.setBlend_blend, hblend]
        rfl
      · rw [State.setBlend_blend, hblend]
        rfl
    · rw [State.endCue_plain (by rwa [hnext'])] at hrunning hnext hblend
      exact ⟨hnext.trans hnext', hrunning, by rw [hblend]; rfl⟩

end Sys2Proof.Machine

/-! SUPPORT. The ranges of the counts and weights, block by block: what Bounded asks of each block, and that writing one block
within its ranges keeps Bounded. -/

namespace Sys2Proof.Machine

/-! What Bounded asks of each block. -/

/-- R174. -/
def Counters.Bounded (c : Counters) : Prop :=
  c.rxGood ≤ 65535 ∧ c.rxBad ≤ 65535 ∧ c.outDrop ≤ 65535 ∧ c.reqDrop ≤ 65535 ∧ c.cueMiss ≤ 65535 ∧
  c.stickContest ≤ 65535 ∧ c.stickGap ≤ 65535 ∧ c.driveMiss ≤ 65535 ∧ c.loadLapse ≤ 65535

/-- R164, R170, R174. -/
structure Link.Bounded (l : Link) : Prop where
  counters : l.counters.Bounded
  window : l.arrivals ≤ 65535 ∧ l.badArrivals ≤ l.arrivals
  cueList : l.cueList.length ≤ 4

/-- R26, R48, R50, R62 to R64, R67. -/
structure RunningSlot.Bounded (r : RunningSlot) : Prop where
  ability : r.paceEff ≤ r.ability ∧ r.ability ≤ 65536
  weights : r.takeWeight ≤ 4096 ∧ r.catchWeight ≤ 4096
  handback : r.handback ≤ 65535
  trim : r.trimOffset.natAbs ≤ r.trimRange * 65536
  passes : 1 ≤ r.passesLeft ∧ r.passesLeft ≤ 255

/-- R81, R82, R85, R89. -/
structure Stick.Bounded (k : Stick) : Prop where
  ranges : k.contest ≤ 100 ∧ k.holdAge ≤ 255 ∧ k.gain ≤ 255 ∧ k.deflection.natAbs ≤ 32767
  noOwner : k.owner = none → k.deflection = 0 ∧ k.phase = .zero

/-- R98, R101. -/
def PeerRecord.Bounded (q : PeerRecord) : Prop :=
  q.age ≤ 255 ∧ q.report.ability ≤ 65536 ∧ (q.present = false → q = PeerRecord.absent)

def Peers.Bounded (p : Peers) : Prop := ∀ n : Station, p.records[n].Bounded

/-- R5. -/
def DirEntry.Bounded (e : DirEntry) : Prop := 1 ≤ e.fields.passes ∧ e.fields.passes ≤ 255

/-- R5, R10, R14. -/
structure Store.Bounded (st : Store) : Prop where
  passes : ∀ p : Preset, (st.entry p).Bounded
  elapsed : ∀ r, st.recording = some r → r.elapsed ≤ 16777215
  lapse : ∀ d, st.download = some d → d.lapse < 2000

/-- R145. -/
structure Port.Bounded (p : Port) : Prop where
  runs : p.missRun ≤ 255 ∧ p.followingRun ≤ 255 ∧ p.error ≤ 4294967295
  measured : inRange32 p.measured
  waiting : ∀ r, p.pendingRecord = some r → inRange32 r.position
  inFlight : ∀ r, p.inFlight = some r → inRange32 r.position

/-- R177. -/
def Start.Bounded (st : Start) : Prop :=
  (∀ r, st.record = some r → -2147483648 ≤ r.lo) ∧ ∀ q, st.staged = some q → -2147483648 ≤ q.lo

/-- R71, R73, R78: the setpoint over the lower soft limit `lo` and the station state. -/
def Blend.Bounded (b : Blend) (lo : Int) (station : StationState) : Prop :=
  -2147483648 * 65536 ≤ b.x ∧ (b.x < lo * 65536 → 0 ≤ b.v) ∧ (station = .config → b.v = 0)

/-- Bounded is what it asks of each block. -/
theorem State.bounded_iff {s : State} : s.Bounded ↔
    s.link.Bounded ∧ s.running.Bounded ∧ s.stick.Bounded ∧ s.peers.Bounded ∧ s.store.Bounded ∧ s.port.Bounded ∧
    s.start.Bounded ∧ s.blend.Bounded s.record.lo s.halt.station :=
  ⟨fun h => ⟨⟨h.counters, h.window, h.cueList⟩, ⟨h.ability, h.weights, h.handback, h.trim, h.passes.1⟩,
      ⟨h.stick, h.noOwner⟩, h.peers, ⟨h.passes.2, h.elapsed, h.lapse⟩,
      ⟨h.port, h.positions.1, h.positions.2.1, h.positions.2.2⟩, h.lowerLimit, h.setpoint⟩,
    fun ⟨hl, hr, hk, hp, hst, hpo, hsa, hb⟩ =>
      { counters := hl.counters, window := hl.window, cueList := hl.cueList, ability := hr.ability, weights := hr.weights
        handback := hr.handback, trim := hr.trim, stick := hk.ranges, noOwner := hk.noOwner, peers := hp
        passes := ⟨hr.passes, hst.passes⟩, elapsed := hst.elapsed, port := hpo.runs
        positions := ⟨hpo.measured, hpo.waiting, hpo.inFlight⟩
        lowerLimit := hsa, setpoint := hb, lapse := hst.lapse }⟩

section Blocks

variable {s : State} (h : s.Bounded)
include h

theorem State.Bounded.link : s.link.Bounded := (State.bounded_iff.mp h).1
theorem State.Bounded.running : s.running.Bounded := (State.bounded_iff.mp h).2.1
theorem State.Bounded.stickRecord : s.stick.Bounded := (State.bounded_iff.mp h).2.2.1
theorem State.Bounded.table : s.peers.Bounded := (State.bounded_iff.mp h).2.2.2.1
theorem State.Bounded.store : s.store.Bounded := (State.bounded_iff.mp h).2.2.2.2.1
theorem State.Bounded.drivePort : s.port.Bounded := (State.bounded_iff.mp h).2.2.2.2.2.1
theorem State.Bounded.start : s.start.Bounded := (State.bounded_iff.mp h).2.2.2.2.2.2.1
theorem State.Bounded.blend : s.blend.Bounded s.record.lo s.halt.station := (State.bounded_iff.mp h).2.2.2.2.2.2.2

/-! Writing one block. -/

theorem State.Bounded.setPending (q : List Instr) : (s.setPending q).Bounded :=
  State.bounded_iff.mpr ((State.bounded_iff (s := s)).mp h)

theorem State.Bounded.setPins (p : Pins) : (s.setPins p).Bounded :=
  State.bounded_iff.mpr ((State.bounded_iff (s := s)).mp h)

theorem State.Bounded.setNext (n : NextSlot) : (s.setNext n).Bounded :=
  State.bounded_iff.mpr ((State.bounded_iff (s := s)).mp h)

theorem State.Bounded.setTrigger (t : Trigger) : (s.setTrigger t).Bounded :=
  State.bounded_iff.mpr ((State.bounded_iff (s := s)).mp h)

theorem State.Bounded.setMark (m : Mark) : (s.setMark m).Bounded :=
  State.bounded_iff.mpr ((State.bounded_iff (s := s)).mp h)

theorem State.Bounded.setLink {l : Link} (hl : l.Bounded) : (s.setLink l).Bounded :=
  State.bounded_iff.mpr ⟨hl, h.running, h.stickRecord, h.table, h.store, h.drivePort, h.start, h.blend⟩

theorem State.Bounded.setRunning {r : RunningSlot} (hr : r.Bounded) : (s.setRunning r).Bounded :=
  State.bounded_iff.mpr ⟨h.link, hr, h.stickRecord, h.table, h.store, h.drivePort, h.start, h.blend⟩

theorem State.Bounded.setStick {k : Stick} (hk : k.Bounded) : (s.setStick k).Bounded :=
  State.bounded_iff.mpr ⟨h.link, h.running, hk, h.table, h.store, h.drivePort, h.start, h.blend⟩

theorem State.Bounded.setPeers {p : Peers} (hp : p.Bounded) : (s.setPeers p).Bounded :=
  State.bounded_iff.mpr ⟨h.link, h.running, h.stickRecord, hp, h.store, h.drivePort, h.start, h.blend⟩

theorem State.Bounded.setStore {st : Store} (hst : st.Bounded) : (s.setStore st).Bounded :=
  State.bounded_iff.mpr ⟨h.link, h.running, h.stickRecord, h.table, hst, h.drivePort, h.start, h.blend⟩

theorem State.Bounded.setPort {p : Port} (hp : p.Bounded) : (s.setPort p).Bounded :=
  State.bounded_iff.mpr ⟨h.link, h.running, h.stickRecord, h.table, h.store, hp, h.start, h.blend⟩

theorem State.Bounded.setBlend {b : Blend} (hb : b.Bounded s.record.lo s.halt.station) : (s.setBlend b).Bounded :=
  State.bounded_iff.mpr ⟨h.link, h.running, h.stickRecord, h.table, h.store, h.drivePort, h.start, hb⟩

/-- Halt control may change freely, but for a way into CONFIG, where the axis is at rest. -/
theorem State.Bounded.setHalt {v : Halt} (hv : v.station = .config → s.halt.station = .config) :
    (s.setHalt v).Bounded := by
  obtain ⟨hfloor, hinward, hrest⟩ := h.blend
  exact State.bounded_iff.mpr ⟨h.link, h.running, h.stickRecord, h.table, h.store, h.drivePort, h.start,
    hfloor, hinward, fun hc => hrest (hv hc)⟩

/-- In CONFIG the axis is at rest, so the soft range may change. -/
theorem State.Bounded.setStart {v : Start} (hc : s.halt.station = .config) (hv : v.Bounded) : (s.setStart v).Bounded := by
  obtain ⟨hfloor, -, hrest⟩ := h.blend
  exact State.bounded_iff.mpr ⟨h.link, h.running, h.stickRecord, h.table, h.store, h.drivePort, hv,
    hfloor, fun _ => (hrest hc).ge, hrest⟩

theorem State.Bounded.lo_ge : -2147483648 ≤ s.record.lo := by
  unfold State.record
  cases hr : s.start.record with
  | none => decide
  | some r => exact h.start.1 r hr

end Blocks

/-! The reset values lie within their ranges. -/

theorem Counters.zero_bounded : Counters.zero.Bounded := by unfold Counters.Bounded; decide

theorem Link.reset_bounded : Link.reset.Bounded := ⟨Counters.zero_bounded, by decide, by decide⟩

theorem RunningSlot.idle_bounded : RunningSlot.idle.Bounded := by constructor <;> decide

theorem Stick.reset_bounded : Stick.reset.Bounded := by constructor <;> decide

theorem PeerRecord.absent_bounded : PeerRecord.absent.Bounded := by unfold PeerRecord.Bounded; decide

theorem Peers.reset_bounded : Peers.reset.Bounded := fun n => by
  simpa [Peers.reset] using PeerRecord.absent_bounded

theorem DirEntry.empty_bounded : DirEntry.empty.Bounded := by unfold DirEntry.Bounded; decide

theorem Store.reset_bounded : Store.reset.Bounded :=
  ⟨fun p => by simpa [Store.reset, Store.entry] using DirEntry.empty_bounded, nofun, nofun⟩

theorem Port.reset_bounded : Port.reset.Bounded := ⟨by decide, by decide, nofun, nofun⟩

theorem Start.unset_bounded (straps : Station) : Start.Bounded { record := none, staged := none, station := straps } :=
  ⟨nofun, nofun⟩

theorem Blend.reset_bounded : Blend.reset.Bounded StartRecord.cleared.lo .config := by unfold Blend.Bounded; decide

/-- After a reset Bounded holds. -/
theorem State.afterReset_bounded (straps : Station) (pins : Pins) : (State.afterReset straps pins).Bounded :=
  State.bounded_iff.mpr ⟨Link.reset_bounded, RunningSlot.idle_bounded, Stick.reset_bounded, Peers.reset_bounded,
    Store.reset_bounded, Port.reset_bounded, Start.unset_bounded straps, Blend.reset_bounded⟩

end Sys2Proof.Machine

/-! SUPPORT. Each shared operation keeps Bounded: counting, the store, the cue slots, halt control and the outbound list. -/

namespace Sys2Proof.Machine

variable {s : State} {st : Store}

/-! Counting (R174). -/

theorem State.Bounded.mapCounters (h : s.Bounded) {f : Counters → Counters}
    (hf : ∀ c : Counters, c.Bounded → (f c).Bounded) : (s.mapCounters f).Bounded :=
  h.setLink ⟨hf _ h.link.counters, h.link.window, h.link.cueList⟩

section Counting

variable (h : s.Bounded)
include h

theorem State.Bounded.countMiss : s.countMiss.Bounded :=
  h.mapCounters fun c hc => by unfold Counters.Bounded satAdd at *; dsimp only; omega

theorem State.Bounded.countOutDrop : s.countOutDrop.Bounded :=
  h.mapCounters fun c hc => by unfold Counters.Bounded satAdd at *; dsimp only; omega

theorem State.Bounded.countReqDrop : s.countReqDrop.Bounded :=
  h.mapCounters fun c hc => by unfold Counters.Bounded satAdd at *; dsimp only; omega

theorem State.Bounded.countContest : s.countContest.Bounded :=
  h.mapCounters fun c hc => by unfold Counters.Bounded satAdd at *; dsimp only; omega

theorem State.Bounded.countGap (gap : Nat) : (s.countGap gap).Bounded :=
  h.mapCounters fun c hc => by unfold Counters.Bounded satAdd at *; dsimp only; omega

theorem State.Bounded.countDriveMiss : s.countDriveMiss.Bounded :=
  h.mapCounters fun c hc => by unfold Counters.Bounded satAdd at *; dsimp only; omega

theorem State.Bounded.countLoadLapse : s.countLoadLapse.Bounded :=
  h.mapCounters fun c hc => by unfold Counters.Bounded satAdd at *; dsimp only; omega

end Counting

/-! The preset store (R5, R10, R14). -/

/-- Of an entry only the mode fields have a bound. -/
theorem DirEntry.Bounded.of_fields {e e' : DirEntry} (h : e.Bounded) (hf : e'.fields = e.fields) : e'.Bounded := by
  unfold DirEntry.Bounded
  rw [hf]
  exact h

/-- One entry written with passes in range keeps the passes of every entry in range. -/
theorem Store.Bounded.passes_set (h : st.Bounded) {st' : Store} {p : Preset} {e : DirEntry}
    (hd : st'.directory = st.directory.set p.val e p.isLt) (he : e.Bounded) (q : Preset) : (st'.entry q).Bounded := by
  rw [Store.entry_of_set hd]
  split
  · exact he
  · exact h.passes q

theorem Store.Bounded.free (h : st.Bounded) (p : Preset) : (st.free p).Bounded :=
  ⟨h.passes_set rfl DirEntry.empty_bounded, h.elapsed, h.lapse⟩

theorem Store.Bounded.freeIfReady (h : st.Bounded) (p : Preset) : (st.freeIfReady p).Bounded := by
  unfold Store.freeIfReady
  split
  · exact h.free p
  · exact h

theorem Store.Bounded.checkEntry (lo hi : Int) (h : st.Bounded) (p : Preset) : (st.checkEntry lo hi p).Bounded := by
  unfold Store.checkEntry
  split
  · exact h.free p
  · exact h

theorem Store.Bounded.checkRanges (lo hi : Int) (h : st.Bounded) : (st.checkRanges lo hi).Bounded := by
  unfold Store.checkRanges
  induction presets generalizing st with
  | nil => exact h
  | cons p l ih => exact ih (h.checkEntry lo hi p)

theorem Store.Bounded.compacted (h : st.Bounded) : st.compacted.Bounded :=
  ⟨fun p => (h.passes p).of_fields (by rw [Store.compacted_entry_kept]),
    fun r hr => h.elapsed r (Store.compacted_recording.symm.trans hr),
    fun d hd => h.lapse d (Store.compacted_download.symm.trans hd)⟩

theorem Store.Bounded.discardDownload (h : st.Bounded) : st.discardDownload.Bounded := by
  unfold Store.discardDownload
  split
  · exact h
  · rename_i d _
    exact ⟨(h.free d.preset).passes, h.elapsed, nofun⟩

theorem State.Bounded.startRecording (h : s.Bounded) (p : Preset) (interval : Nat) :
    (s.startRecording p interval).Bounded := by
  have hst := h.store.freeIfReady p
  refine h.setStore ⟨hst.passes_set rfl (DirEntry.empty_bounded.of_fields rfl), fun r hr => ?_, hst.lapse⟩
  cases hr
  exact Nat.zero_le _

theorem State.Bounded.capture (h : s.Bounded) {r : Recording} (hr : r.elapsed ≤ 16777215) (t : Nat) :
    (s.capture r t).Bounded := by
  refine h.setStore ⟨h.store.passes_set rfl ((h.store.passes r.preset).of_fields rfl), fun r' hr' => ?_, h.store.lapse⟩
  cases hr'
  exact hr

theorem State.Bounded.closeRecording (h : s.Bounded) (r : Recording) (b : Bool) : (s.closeRecording r b).Bounded := by
  unfold State.closeRecording
  split
  · exact h.setStore ⟨h.store.passes_set rfl ((h.store.passes r.preset).of_fields rfl), nofun, h.store.lapse⟩
  · exact State.Bounded.countMiss (h.setStore ⟨(h.store.free r.preset).passes, nofun, h.store.lapse⟩)

theorem State.Bounded.endRecording (h : s.Bounded) : s.endRecording.Bounded := by
  unfold State.endRecording
  split
  · exact h
  · rename_i r hr
    split
    · exact (h.capture (h.store.elapsed r hr) r.elapsed).closeRecording r false
    · exact h.closeRecording r false

/-- The elapsed count rises only where the limit of R14 is not reached. -/
theorem State.Bounded.recordExpiry (h : s.Bounded) : s.recordExpiry.Bounded := by
  unfold State.recordExpiry
  split
  · exact h
  · rename_i r hr
    have hr := h.store.elapsed r hr
    dsimp only
    split
    · exact h.closeRecording r true
    · have hrise : r.elapsed + 1 ≤ 16777215 := by omega
      split
      · exact h.capture (r := { r with elapsed := r.elapsed + 1 }) hrise _
      · refine h.setStore ⟨h.store.passes, fun r' hr' => ?_, h.store.lapse⟩
        cases hr'
        exact hrise

theorem State.Bounded.downloadExpiry (h : s.Bounded) : s.downloadExpiry.Bounded := by
  unfold State.downloadExpiry
  split
  · exact h
  · split
    · exact (h.setStore h.store.discardDownload).countLoadLapse
    · refine h.setStore ⟨h.store.passes, h.store.elapsed, fun d' hd' => ?_⟩
      cases hd'
      dsimp only
      omega

/-! The cue slots (R36, R37, R39 to R42, R46, R47). -/

theorem Blend.Bounded.taking {b : Blend} {lo : Int} {station : StationState} (h : b.Bounded lo station) (t : Bool) :
    Blend.Bounded { b with taking := t } lo station := h

theorem State.Bounded.idleCue (h : s.Bounded) : s.idleCue.Bounded :=
  (h.setRunning RunningSlot.idle_bounded).setBlend (h.blend.taking false)

theorem State.startedSlot_bounded (h : s.Bounded) (m : StationMask) : (s.startedSlot m).Bounded where
  ability := by simp [State.startedSlot]
  weights := ⟨Nat.zero_le _, by unfold State.startedSlot; dsimp only; split <;> decide⟩
  handback := Nat.zero_le _
  trim := Nat.zero_le _
  passes := h.store.passes s.next.preset

theorem State.Bounded.startCue (h : s.Bounded) (m : StationMask) : (s.startCue m).Bounded :=
  ((h.setRunning (State.startedSlot_bounded h m)).setNext NextSlot.empty).setBlend (h.blend.taking false)

/-- A pass that restarts has one pass or more left. -/
theorem State.Bounded.restartPass (h : s.Bounded) (hmore : s.running.cycle = true ∨ 1 < s.running.passesLeft) :
    s.restartPass.Bounded := by
  obtain ⟨hability, ⟨htake, -⟩, hhandback, htrim, hlow, hhigh⟩ := h.running
  refine h.setRunning ⟨hability, ⟨htake, ?_⟩, hhandback, htrim, ?_⟩
  · dsimp only
    split <;> decide
  · dsimp only
    split
    · omega
    · rename_i hcycle
      have := hmore.resolve_left hcycle
      omega

theorem State.Bounded.endCue (h : s.Bounded) : s.endCue.Bounded := by
  unfold State.endCue
  split
  · exact h.idleCue.startCue _
  · exact h.idleCue

theorem State.Bounded.endPass (h : s.Bounded) : s.endPass.Bounded := by
  unfold State.endPass
  split
  · rename_i hmore
    exact h.restartPass hmore
  · exact h.endCue

theorem State.Bounded.actLoad (h : s.Bounded) (id preset cond : Byte) : (s.actLoad id preset cond).Bounded := by
  unfold State.actLoad
  split
  · split
    · exact h.setNext _
    · exact h.countMiss
  · exact h.countMiss

theorem State.Bounded.actSeek (h : s.Bounded) (id : Byte) : (s.actSeek id).Bounded := by
  unfold State.actSeek
  split
  · split
    · exact h.setNext _
    · exact h
  · exact h.countMiss

theorem State.Bounded.actGo (h : s.Bounded) (m : StationMask) (id : Byte) : (s.actGo m id).Bounded := by
  unfold State.actGo
  split
  · exact h.startCue m
  · exact h.countMiss

theorem State.Bounded.actStop (h : s.Bounded) (id : Byte) : (s.actStop id).Bounded := by
  unfold State.actStop
  split
  · exact h.idleCue
  · exact h.countMiss

/-- The state of the RUNNING slot has no bound. -/
theorem RunningSlot.Bounded.state {r : RunningSlot} (h : r.Bounded) (c : CueState) :
    RunningSlot.Bounded { r with state := c } := ⟨h.ability, h.weights, h.handback, h.trim, h.passes⟩

theorem State.Bounded.actHold (h : s.Bounded) (id : Byte) : (s.actHold id).Bounded := by
  unfold State.actHold
  split
  · exact h.setRunning (h.running.state _)
  · exact h.countMiss

theorem State.Bounded.actRelease (h : s.Bounded) (id : Byte) : (s.actRelease id).Bounded := by
  unfold State.actRelease
  split
  · exact h.setRunning (h.running.state _)
  · exact h.countMiss

theorem State.Bounded.actLoopEnd (h : s.Bounded) (id : Byte) : (s.actLoopEnd id).Bounded := by
  unfold State.actLoopEnd
  split
  · obtain ⟨hability, hweights, hhandback, htrim, -⟩ := h.running
    exact h.setRunning ⟨hability, hweights, hhandback, htrim, Nat.le_refl 1, Nat.le_add_left 1 254⟩
  · exact h.countMiss

theorem State.Bounded.actRecStart (h : s.Bounded) (preset interval : Byte) : (s.actRecStart preset interval).Bounded := by
  unfold State.actRecStart
  split
  · split
    · exact h.startRecording _ _
    · exact h.countMiss
  · exact h.countMiss

theorem State.Bounded.actRecStop (h : s.Bounded) : s.actRecStop.Bounded := by
  unfold State.actRecStop
  split
  · exact h.endRecording
  · exact h.countMiss

theorem State.Bounded.inMask (h : s.Bounded) (m : StationMask) {act : State → State} (hact : (act s).Bounded) :
    (s.inMask m act).Bounded := by
  unfold State.inMask
  split
  · exact hact
  · exact h

/-! The outbound list (R164). -/

theorem State.Bounded.placeHalt (h : s.Bounded) (f : HaltFrame) : (s.placeHalt f).Bounded :=
  h.setLink ⟨h.link.counters, h.link.window, h.link.cueList⟩

theorem State.Bounded.placeState (h : s.Bounded) (r : Report) : (s.placeState r).Bounded :=
  h.setLink ⟨h.link.counters, h.link.window, h.link.cueList⟩

theorem State.Bounded.placeReply (h : s.Bounded) (r : Reply) : (s.placeReply r).Bounded :=
  h.setLink ⟨h.link.counters, h.link.window, h.link.cueList⟩

theorem State.Bounded.placeCue (h : s.Bounded) (f : CueFrame) : (s.placeCue f).Bounded := by
  unfold State.placeCue
  split
  · rename_i hroom
    refine h.setLink ⟨h.link.counters, h.link.window, ?_⟩
    rw [List.length_append]
    exact hroom
  · exact h.countOutDrop

/-! Halt control (R128 to R132) and the trigger (R115 to R117). -/

theorem State.Bounded.enterHalting (h : s.Bounded) : s.enterHalting.Bounded :=
  (((h.endRecording.setHalt (by nofun)).idleCue).setNext _).setTrigger _

theorem State.Bounded.latch (h : s.Bounded) (c : Causes) : (s.latch c).Bounded := h.setHalt id

theorem State.Bounded.recordHalt (h : s.Bounded) (origin : Station) (entry originCauses : Causes) :
    (s.recordHalt origin entry originCauses).Bounded := h.setHalt id

theorem State.Bounded.localFault (h : s.Bounded) (c : Causes) : (s.localFault c).Bounded :=
  ((((h.latch c).recordHalt _ _ _).enterHalting).placeHalt _)

theorem State.Bounded.raise (h : s.Bounded) (c : Causes) : (s.raise c).Bounded := by
  rcases State.raise_cases (s := s) c with e | ⟨-, -, e⟩ | ⟨-, d, -, e⟩ <;> rw [e]
  · exact h
  · exact h.localFault c
  · exact h.latch d

theorem State.Bounded.haltFromOutside (h : s.Bounded) (c : Causes) (origin : Station) (oc : Causes) :
    (s.haltFromOutside c origin oc).Bounded := by
  unfold State.haltFromOutside
  split
  · exact ((h.latch c).recordHalt _ _ _).enterHalting
  · exact h.latch c
  · exact h.latch c
  · exact h

theorem State.Bounded.evaluateTrigger (h : s.Bounded) (reported : StationState) (p : Int) :
    (s.evaluateTrigger reported p).Bounded := by
  unfold State.evaluateTrigger
  split
  · split
    · exact h
    · split
      · exact h.setTrigger _
      · exact h
    · split
      · exact (h.placeCue _).setTrigger _
      · exact h
  · exact h

/-! Arrivals and requests (R168, R170, R172). -/

theorem Link.Bounded.windowStep {l : Link} (h : l.Bounded) (bad fr : Bool) (n b : Nat) :
    (l.windowStep bad fr n b).Bounded := by
  obtain ⟨hcounters, ⟨harrivals, hbad⟩, hlist⟩ := h
  have hb : bad.toNat ≤ 1 := Bool.toNat_le bad
  unfold Link.windowStep
  dsimp only
  split
  · exact ⟨hcounters, ⟨Nat.zero_le _, Nat.zero_le _⟩, hlist⟩
  · exact ⟨hcounters, ⟨satAdd_le _ _ _, satAdd_mono _ hbad hb⟩, hlist⟩

theorem State.Bounded.countArrival (h : s.Bounded) (bad : Bool) : (s.countArrival bad).Bounded := by
  have hcounted := h.mapCounters (f := fun c => if bad then { c with rxBad := satAdd 65535 c.rxBad 1 }
      else { c with rxGood := satAdd 65535 c.rxGood 1 }) fun c hc => by
    split <;> (unfold Counters.Bounded satAdd at *; dsimp only; omega)
  obtain ⟨hcounters, hwindow, hlist⟩ := hcounted.link.windowStep bad s.frozen s.record.windowSize s.record.badThreshold
  exact hcounted.setLink ⟨hcounters, hwindow, hlist⟩

theorem State.Bounded.arriveUnless (h : s.Bounded) (deaf : Bool) (n : Station) {act : State → State}
    (hact : ∀ u : State, u.Bounded → (act u).Bounded) : (s.arriveUnless deaf n act).Bounded := by
  unfold State.arriveUnless
  split
  · exact h
  · split
    · exact (h.countArrival false).raise _
    · exact hact _ (h.countArrival false)

theorem State.Bounded.arrive (h : s.Bounded) (n : Station) {act : State → State}
    (hact : ∀ u : State, u.Bounded → (act u).Bounded) : (s.arrive n act).Bounded := h.arriveUnless _ n hact

theorem State.Bounded.arriveInMask (h : s.Bounded) (n : Station) (m : StationMask) {act : State → State}
    (hact : ∀ u : State, u.Bounded → (act u).Bounded) : (s.arrive n (State.inMask m act)).Bounded :=
  h.arrive n fun u hu => hu.inMask m (hact u hu)

theorem State.Bounded.takeRequest (h : s.Bounded) (header : ReqHeader) (kind : Byte) {owner : State → Answer}
    (howner : (owner s).after.Bounded) : (s.takeRequest header kind owner).Bounded := by
  unfold State.takeRequest
  split
  · exact h
  · split
    · exact h.countReqDrop
    · exact howner.placeReply _

theorem State.Bounded.request (h : s.Bounded) (header : ReqHeader) (kind : Byte) {owner : State → Answer}
    (howner : ∀ u : State, u.Bounded → (owner u).after.Bounded) : (s.request header kind owner).Bounded :=
  h.arrive _ fun u hu => hu.takeRequest header kind (howner u hu)

theorem State.Bounded.withArgs {α : Type} (h : s.Bounded) (args : Sized α) {owner : α → State → Answer}
    (howner : ∀ a, (owner a s).after.Bounded) : (State.withArgs args owner s).after.Bounded := by
  cases args with
  | wrongLength => exact h
  | fields a => exact howner a

theorem State.Bounded.requestArgs {α : Type} (h : s.Bounded) (header : ReqHeader) (kind : Byte) (args : Sized α)
    {owner : α → State → Answer} (howner : ∀ a (u : State), u.Bounded → (owner a u).after.Bounded) :
    (s.request header kind (State.withArgs args owner)).Bounded :=
  h.request header kind fun u hu => hu.withArgs args fun a => howner a u hu

end Sys2Proof.Machine

/-! SUPPORT. An expiry keeps Bounded: the ageing, the cue engine, the blend and limit stage, the readers of the setpoint, and the
drive port (R10, R43, R56 to R77, R86 to R89, R101, R133, R134, R146 to R153). -/

namespace Sys2Proof.Machine

variable {s : State}

/-! The stick record and the peer table (R81, R86, R88, R89, R98, R101). -/

theorem Stick.Bounded.age {k : Stick} (h : k.Bounded) : k.age.Bounded := by
  obtain ⟨⟨hcontest, -, hgain, hdeflection⟩, hnone⟩ := h
  have hage := satAdd_le 255 k.holdAge 1
  have hcontest' : k.contest - 1 ≤ 100 := by omega
  unfold Stick.age
  dsimp only
  split
  · rename_i ho
    exact ⟨⟨hcontest', hage, hgain, hdeflection⟩, fun _ => ⟨(hnone ho).1, rfl⟩⟩
  · split
    · exact ⟨⟨hcontest', hage, hgain, by simp⟩, fun _ => ⟨rfl, rfl⟩⟩
    · rename_i ho _
      exact ⟨⟨hcontest', hage, hgain, hdeflection⟩, fun hno => by simp [ho] at hno⟩

theorem PeerRecord.Bounded.older {q : PeerRecord} (h : q.Bounded) : q.older.Bounded := by
  unfold PeerRecord.older
  split
  · rename_i hp
    exact ⟨satAdd_le _ _ _, h.2.1, fun hno => by simp [hp] at hno⟩
  · exact h

/-- A table mapped by what keeps the range of a record keeps the ranges of all. -/
theorem Peers.Bounded.map {p : Peers} (h : p.Bounded) {f : PeerRecord → PeerRecord}
    (hf : ∀ q : PeerRecord, q.Bounded → (f q).Bounded) :
    Peers.Bounded { p with records := mapTable f p.records } := fun n => by
  change ((mapTable f p.records)[n.val]'n.isLt).Bounded
  rw [mapTable_get]
  exact hf _ (h n)

theorem Peers.Bounded.older {p : Peers} (h : p.Bounded) : p.older.Bounded := h.map fun _ hq => hq.older

theorem State.Bounded.peersExpiry (h : s.Bounded) : s.peersExpiry.Bounded :=
  (h.setPeers h.table.older).setPeers (p := { s.peers.older with coupling := _ }) h.table.older

theorem State.Bounded.ageExpiry (h : s.Bounded) : s.ageExpiry.Bounded :=
  ((h.setStick h.stickRecord.age).peersExpiry).downloadExpiry

/-! The cue engine (R43 to R52). -/

theorem State.Bounded.cueExpiry (h : s.Bounded) : s.cueExpiry.Bounded := by
  unfold State.cueExpiry
  split
  · exact h
  · obtain ⟨-, hweights, hhandback, htrim, hpasses⟩ := h.running
    exact h.setRunning ⟨⟨State.pace_le_ownAbility, State.ownAbility_le⟩, hweights, hhandback, htrim, hpasses⟩

/-! The weights and offsets of the modes (R62 to R64, R67). -/

theorem clamp_natAbs_le (a : Int) (n : Nat) : (clamp a (-fu n) (fu n)).natAbs ≤ n * 65536 := by
  unfold clamp fu
  omega

theorem handbackStep_le (r : StartRecord) (sup : Supply) {run : RunningSlot} (h : run.handback ≤ 65535) :
    handbackStep r sup run ≤ 65535 := by
  unfold handbackStep
  split
  · exact Nat.zero_le _
  · split
    · exact h
    · exact satAdd_le _ _ _

theorem weightStep_le (sup : Supply) (taking : Bool) {run : RunningSlot} (h : run.takeWeight ≤ 4096) :
    weightStep sup taking run ≤ 4096 := by
  unfold weightStep
  split
  · split
    · exact Nat.min_le_right _ _
    · exact h
  · omega

theorem RunningSlot.Bounded.modeStep {run : RunningSlot} (h : run.Bounded) (r : StartRecord) (sup : Supply) (p : Int)
    (taking : Bool) : (modeStep r sup p taking run).Bounded := by
  obtain ⟨hability, ⟨htake, hcatch⟩, hhandback, htrim, hpasses⟩ := h
  unfold Machine.modeStep
  split
  · exact ⟨hability, ⟨htake, hcatch⟩, hhandback, htrim, hpasses⟩
  · exact ⟨hability, ⟨htake, hcatch⟩, hhandback, clamp_natAbs_le _ _, hpasses⟩
  · exact ⟨hability, ⟨weightStep_le sup taking htake, hcatch⟩, handbackStep_le r sup hhandback, htrim, hpasses⟩

theorem RunningSlot.Bounded.catchStep {run : RunningSlot} (h : run.Bounded) (r : StartRecord) :
    (catchStep r run).Bounded :=
  ⟨h.ability, ⟨h.weights.1, (Nat.sub_le _ _).trans h.weights.2⟩, h.handback, h.trim, h.passes⟩

/-! The setpoint (R71, R73, R76, R77). -/

/-- The travel clamp keeps the setpoint above the bound of the lower limit, and below the soft range it moves upwards. -/
theorem Blend.Bounded.travelClamp {b : Blend} {lo hi : Int} {station : StationState} {v : Int}
    (h : b.Bounded lo station) (hlo : -2147483648 ≤ lo) (hv : b.x < fu lo → 0 ≤ v) (hst : station ≠ .config) :
    (travelClamp (fu lo) hi b v).Bounded lo station := by
  obtain ⟨hfloor, -, -⟩ := h
  rcases Int.lt_or_le b.x (fu lo) with hx | hx
  · obtain ⟨hup, hpos⟩ := travelClamp_upwards (hi := hi) (hv hx) hx
    exact ⟨hfloor.trans hup, fun _ => hpos, fun hc => absurd hc hst⟩
  · have hin := travelClamp_floor (hi := hi) v hx
    refine ⟨?_, fun hout => absurd hin (Int.not_le.mpr hout), fun hc => absurd hc hst⟩
    have hfu : fu lo = lo * 65536 := rfl
    omega

theorem Blend.Bounded.limitStage {b : Blend} {lo : Int} {station : StationState} {l : Limits} (h : b.Bounded lo station)
    (hlo : -2147483648 ≤ lo) (hl : l.lo = fu lo) (hst : station ≠ .config) (target : Int) :
    (limitStage l b target).Bounded lo station := by
  unfold Machine.limitStage
  rw [hl]
  exact h.travelClamp hlo (fun hx => l.velocity_below target (by omega) (h.2.1 hx)) hst

theorem State.Bounded.blendRun (h : s.Bounded) (sup : Supply) (hst : s.halt.station ≠ .config) :
    (s.blendRun sup).Bounded := by
  have hmove := h.blend.limitStage h.lo_ge (l := s.limits) rfl hst
  unfold State.blendRun
  split
  · exact h.setBlend (hmove _)
  · exact h.setBlend (hmove _)
  · exact (h.setRunning ((h.running.modeStep _ _ _ _).catchStep _)).setBlend ((hmove _).taking _)

theorem State.Bounded.blendHalting (h : s.Bounded) (hst : s.halt.station ≠ .config) : s.blendHalting.Bounded :=
  h.setBlend (h.blend.travelClamp h.lo_ge (fun hx => decelerated_nonneg _ (h.blend.2.1 hx)) hst)

theorem State.Bounded.blendHalted (h : s.Bounded) : s.blendHalted.Bounded :=
  h.setBlend ⟨h.blend.1, fun _ => le_refl _, fun _ => rfl⟩

/-! The readers of the setpoint, and the computation (R13, R33, R45, R56, R133). -/

theorem State.Bounded.readSetpoint (h : s.Bounded) : s.readSetpoint.Bounded := by
  have hrec := h.recordExpiry
  unfold State.readSetpoint State.seekTest State.passTest
  dsimp only
  split
  · split
    · exact hrec.setNext _
    · exact hrec
  · split
    · exact hrec.endPass
    · exact hrec

theorem State.Bounded.computeExpiry (h : s.Bounded) (sup : Supply) : (s.computeExpiry sup).Bounded := by
  unfold State.computeExpiry
  split
  · rename_i hrun
    refine State.Bounded.readSetpoint (h.cueExpiry.blendRun sup ?_)
    rw [State.cueExpiry_eq, State.setRunning_halt, hrun]
    decide
  · rename_i hhalting
    have hb := h.blendHalting (by simp [hhalting])
    unfold State.computeHalting
    dsimp only
    split
    · exact hb.setHalt (by nofun)
    · exact hb
  · exact h.blendHalted
  · exact h

/-! The drive port (R145 to R153). -/

theorem State.Bounded.tryExchange (h : s.Bounded) : s.tryExchange.Bounded := by
  obtain ⟨hruns, hmeasured, hwaiting, -⟩ := h.drivePort
  rcases State.tryExchange_cases (s := s) with e | ⟨p, hp, -, -, e⟩ <;> rw [e]
  · exact h
  · refine h.setPort ⟨hruns, hmeasured, nofun, fun r hr => ?_⟩
    cases hr
    exact hwaiting _ hp

theorem State.Bounded.missExchange (h : s.Bounded) : s.missExchange.Bounded := by
  obtain ⟨⟨-, hfollowing, herror⟩, hmeasured, hwaiting, hflight⟩ := h.drivePort
  have hport : (s.setPort
      { s.port with lastExchange := .missed, missRun := satAdd 255 s.port.missRun 1 }).Bounded :=
    h.setPort ⟨⟨satAdd_le _ _ _, hfollowing, herror⟩, hmeasured, hwaiting, hflight⟩
  exact hport.countDriveMiss.raise _

theorem State.Bounded.handOver (h : s.Bounded) {position : Int} (hp : inRange32 position) (velocity : Int)
    (enable halting : Bool) : (s.handOver position velocity enable halting).Bounded := by
  obtain ⟨hruns, hmeasured, -, hflight⟩ := h.drivePort
  have hport : (s.setPort (s.port.handed position velocity enable halting)).Bounded := by
    refine h.setPort ⟨hruns, hmeasured, fun r hr => ?_, hflight⟩
    cases hr
    exact hp
  cases hw : s.port.pendingRecord with
  | none =>
    rw [State.handOver_fresh _ _ _ _ hw]
    exact hport.tryExchange
  | some r =>
    rw [State.handOver_replaces _ _ _ _ (by rw [hw]; rfl)]
    exact hport.missExchange.tryExchange

/-- The rounded setpoint fits its field from below by the bound, and from above by the cap (R189). -/
theorem State.Bounded.roundAuCapped (h : s.Bounded) : inRange32 (roundAuCapped s.blend.x) := by
  have hfloor := h.blend.1
  unfold Machine.roundAuCapped roundAu
  constructor <;> omega

theorem State.Bounded.expiry (h : s.Bounded) : s.expiry.Bounded := by
  have hc := h.ageExpiry.computeExpiry s.stickSupply
  have hr : (s.computed.lostReport s.reportDue).Bounded := by
    unfold State.lostReport
    split
    · exact hc.placeState _
    · exact hc
  have hn : (s.computed.lostReport s.reportDue).newPeriod.Bounded :=
    hr.setPort ⟨hr.drivePort.runs, hr.drivePort.measured, hr.drivePort.waiting, hr.drivePort.inFlight⟩
  exact hn.handOver hn.roundAuCapped _ _ _

/-- A row that names an event of an expiry is that expiry, or no change. -/
theorem State.Bounded.expiryIf (h : s.Bounded) (p : Prop) [Decidable p] : (if p then s.expiry else s).Bounded := by
  split
  · exact h.expiry
  · exact h

theorem State.Bounded.handHold (h : s.Bounded) : s.handHold.Bounded := by
  refine h.handOver ?_ _ _ _
  split
  · exact h.drivePort.measured
  · decide

/-! Feedback (R148 to R153). -/

theorem inRange32_toInt (w : Word) : inRange32 w.toInt := by
  have hlow := BitVec.le_toInt w
  have hhigh := BitVec.toInt_lt (x := w)
  constructor <;> omega

theorem followingError_le {sent : Setpoint} (hs : inRange32 sent.position) (fb : RawFeedback) :
    followingError sent fb ≤ 4294967295 := by
  obtain ⟨hlow, hhigh⟩ := hs
  obtain ⟨hlow', hhigh'⟩ := inRange32_toInt fb.measured
  unfold followingError
  omega

theorem Port.nextRun_le (p : Port) (feLimit err : Nat) : p.nextRun feLimit err ≤ 255 := by
  unfold Port.nextRun
  split
  · exact satAdd_le _ _ _
  · exact Nat.zero_le _

theorem Port.Bounded.storeFeedback {p : Port} (h : p.Bounded) (inConfig : Bool) (feLimit : Nat) (status : DriveStatus)
    {sent : Setpoint} (hs : inRange32 sent.position) (fb : RawFeedback) :
    (p.storeFeedback inConfig feLimit status sent fb).Bounded := by
  refine ⟨⟨Nat.zero_le _, ?_, ?_⟩, inRange32_toInt _, h.waiting, nofun⟩
  · unfold Port.storeFeedback
    dsimp only
    split
    · exact Nat.zero_le _
    · exact Port.nextRun_le _ _ _
  · unfold Port.storeFeedback
    dsimp only
    split
    · exact Nat.zero_le _
    · exact followingError_le hs fb

theorem State.Bounded.leaveConfig (h : s.Bounded) : s.leaveConfig.Bounded := by
  unfold State.leaveConfig
  split
  · have hmeasured := h.drivePort.measured.1
    have hb : (s.setBlend { s.blend with x := fu s.port.measured, v := 0, atLimit := false }).Bounded := by
      refine h.setBlend ⟨?_, fun _ => le_refl _, fun _ => rfl⟩
      unfold fu
      dsimp only
      omega
    dsimp only
    split
    · exact (hb.recordHalt _ _ _).setHalt (by nofun)
    · exact hb.setHalt (by nofun)
  · exact h

theorem State.Bounded.reportFeedback (h : s.Bounded) : s.reportFeedback.Bounded := by
  unfold State.reportFeedback
  dsimp only
  split
  · exact (h.placeState _).evaluateTrigger _ _
  · exact h.placeState _

theorem State.Bounded.validFeedback (h : s.Bounded) (status : DriveStatus) {sent : Setpoint}
    (hs : inRange32 sent.position) (fb : RawFeedback) : (s.validFeedback status sent fb).Bounded :=
  ((((h.setPort (h.drivePort.storeFeedback _ _ status hs fb)).raise _).leaveConfig).reportFeedback)

theorem State.Bounded.badFeedback (h : s.Bounded) : s.badFeedback.Bounded :=
  State.Bounded.missExchange (h.setPort (p := { s.port with inFlight := none })
    ⟨h.drivePort.runs, h.drivePort.measured, h.drivePort.waiting, nofun⟩)

theorem State.Bounded.judge (h : s.Bounded) {sent : Setpoint} (hs : s.port.inFlight = some sent) (fb : RawFeedback) :
    (s.judge sent fb).Bounded := by
  unfold State.judge
  split
  · exact h.badFeedback
  · split
    · exact h.validFeedback _ (h.drivePort.inFlight sent hs) fb
    · exact h.badFeedback

end Sys2Proof.Machine

/-! SUPPORT. The frames, requests and pins keep Bounded, and with them every command and every step. -/

namespace Sys2Proof.Machine

variable {s : State}

/-! HALT and RESUME (R130, R137, R138). -/

theorem State.Bounded.actHalt (h : s.Bounded) (origin causes : Byte) : (s.actHalt origin causes).Bounded := by
  unfold State.actHalt
  split
  · exact h.haltFromOutside _ _ _
  · exact h

theorem State.Bounded.enterRun (h : s.Bounded) : s.enterRun.Bounded :=
  (h.setHalt (v := { s.halt with station := .run }) (by nofun)).setBlend ⟨h.blend.1, fun _ => le_refl _, fun _ => rfl⟩

theorem State.Bounded.actResume (h : s.Bounded) (epoch : Byte) : (s.actResume epoch).Bounded := by
  have hcleared : (s.setHalt { s.halt with epoch := epoch, causes := s.remaining }).Bounded := h.setHalt id
  unfold State.actResume
  split
  · dsimp only
    split
    · exact hcleared.enterRun
    · exact hcleared
  · exact h.setHalt id

/-! STATE (R49, R99, R100, R131, R136). -/

theorem reportOf_ability {raw : RawReport} {r : Report} (h : reportOf raw = some r) : r.ability ≤ 65536 := by
  unfold reportOf at h
  split at h
  · split at h
    · rename_i hrange
      cases h
      exact hrange.2
    · cases h
  · cases h

theorem State.Bounded.writePeer (h : s.Bounded) (n : Station) {r : Report} (hr : r.ability ≤ 65536) :
    (s.writePeer n r).Bounded := by
  refine h.setPeers fun m => ?_
  change ((s.peers.records.set n.val (writtenRecord s.start.record r) n.isLt)[m.val]'m.isLt).Bounded
  rw [Vector.getElem_set]
  split
  · exact ⟨Nat.zero_le _, hr, nofun⟩
  · exact h.table m

theorem State.Bounded.joinSeen (h : s.Bounded) (n : Station) (r : Report) : (s.joinSeen n r).Bounded := by
  unfold State.joinSeen
  split
  · obtain ⟨hability, hweights, hhandback, htrim, hpasses⟩ := h.running
    exact h.setRunning ⟨hability, hweights, hhandback, htrim, hpasses⟩
  · exact h

theorem State.Bounded.watchReport (h : s.Bounded) (n : Station) (r : Report) : (s.watchReport n r).Bounded := by
  unfold State.watchReport
  split
  · exact h.evaluateTrigger _ _
  · exact h

theorem State.Bounded.haltReport (h : s.Bounded) (n : Station) (r : Report) : (s.haltReport n r).Bounded := by
  unfold State.haltReport
  split
  · split
    · exact h
    · exact h.setHalt id
  · split
    · exact h.haltFromOutside _ _ _
    · exact h

theorem State.Bounded.actState (h : s.Bounded) (n : Station) (raw : RawReport) (haltFirst : Bool) :
    (s.actState n raw haltFirst).Bounded := by
  unfold State.actState
  split
  · exact h
  · rename_i r hr
    have hjoined := (h.writePeer n (reportOf_ability hr)).joinSeen n r
    unfold State.handReport
    dsimp only
    split
    · exact (hjoined.haltReport n r).watchReport n r
    · exact (hjoined.watchReport n r).haltReport n r

/-! STICK (R82 to R87). -/

theorem deflectionOf_le (d : Half) : (deflectionOf d).natAbs ≤ 32767 := by
  have hhigh := BitVec.toInt_lt (x := d)
  unfold deflectionOf
  omega

theorem Stick.Bounded.accept {k : Stick} (h : k.Bounded) (c : Channel) {o : Station} (ho : k.owner = some o) :
    (k.accept c).Bounded :=
  ⟨⟨h.ranges.1, Nat.zero_le _, Nat.le_of_lt_succ c.gain.isLt, deflectionOf_le _⟩,
    fun hno => by simp [Stick.accept, ho] at hno⟩

theorem State.Bounded.abandonSeek (h : s.Bounded) : s.abandonSeek.Bounded := by
  unfold State.abandonSeek
  split
  · exact h.setNext _
  · exact h

theorem State.Bounded.claim (h : s.Bounded) (n : Station) (sequence : Byte) (c : Channel) :
    (s.claim n sequence c).Bounded :=
  State.Bounded.abandonSeek (h.setStick ⟨⟨h.stickRecord.ranges.1, Nat.zero_le _, Nat.le_of_lt_succ c.gain.isLt,
    deflectionOf_le _⟩, nofun⟩)

theorem State.Bounded.releaseStick (h : s.Bounded) : s.releaseStick.Bounded := by
  obtain ⟨⟨hcontest, -, hgain, -⟩, -⟩ := h.stickRecord
  exact h.setStick ⟨⟨hcontest, le_refl _, hgain, by simp⟩, fun _ => ⟨rfl, rfl⟩⟩

theorem State.Bounded.contestStick (h : s.Bounded) : s.contestStick.Bounded := by
  obtain ⟨⟨-, hage, hgain, hdeflection⟩, hnone⟩ := h.stickRecord
  exact h.countContest.setStick ⟨⟨le_refl _, hage, hgain, hdeflection⟩, hnone⟩

theorem State.Bounded.decideChannel (h : s.Bounded) (n : Station) (sequence : Byte) (c : Channel) :
    (s.decideChannel n sequence c).Bounded := by
  unfold State.decideChannel
  split
  · split
    · exact h
    · exact h.claim n sequence c
  · rename_i o ho
    split
    · split
      · exact h.releaseStick
      · exact (h.setStick (h.stickRecord.accept c ho)).abandonSeek
    · exact h.contestStick

theorem State.Bounded.checkSequence (h : s.Bounded) (n : Station) (sequence : Byte) :
    (s.checkSequence n sequence).Bounded := by
  unfold State.checkSequence
  split
  · exact (h.countGap _).setStick ⟨h.stickRecord.ranges, h.stickRecord.noOwner⟩
  · exact h

theorem State.Bounded.actStick (h : s.Bounded) (n : Station) (sequence : Byte) (channels : List Channel) :
    (s.actStick n sequence channels).Bounded := by
  have hchecked := h.checkSequence n sequence
  unfold State.actStick
  split
  · exact h
  · dsimp only
    split
    · exact hchecked
    · exact hchecked.decideChannel n sequence _

/-! The line (R161 to R166). -/

theorem State.Bounded.openWindow (h : s.Bounded) : s.openWindow.Bounded :=
  h.setLink ⟨h.link.counters, h.link.window, h.link.cueList⟩

/-- Taking a frame out of a part leaves the list no longer than it was. -/
theorem Link.Bounded.takeFrame {l l' : Link} (h : l.Bounded) {p : Part} {f : Frame}
    (ht : l.takeFrame p = some (f, l')) : l'.Bounded := by
  cases p with
  | halt =>
    obtain ⟨a, -, e⟩ := Option.map_eq_some_iff.mp ht
    cases e
    exact ⟨h.counters, h.window, h.cueList⟩
  | cue =>
    have hlist := h.cueList
    simp only [Link.takeFrame] at ht
    split at ht
    · cases ht
    · rename_i c rest hcons
      cases ht
      rw [hcons, List.length_cons] at hlist
      exact ⟨h.counters, h.window, Nat.le_of_succ_le hlist⟩
  | state =>
    obtain ⟨a, -, e⟩ := Option.map_eq_some_iff.mp ht
    cases e
    exact ⟨h.counters, h.window, h.cueList⟩
  | reply =>
    obtain ⟨a, -, e⟩ := Option.map_eq_some_iff.mp ht
    cases e
    exact ⟨h.counters, h.window, h.cueList⟩

theorem State.Bounded.ownSlot (h : s.Bounded) (others : Option Byte) : (s.ownSlot others).Bounded := by
  have hwithdrawn : (s.setLink s.link.withdrawn).Bounded := h.setLink ⟨h.link.counters, h.link.window, h.link.cueList⟩
  unfold State.ownSlot
  split
  · exact h
  · split
    · exact hwithdrawn
    · split
      · exact hwithdrawn
      · rename_i f l ht
        have hl := h.link.takeFrame ht
        exact h.setLink ⟨hl.counters, hl.window, hl.cueList⟩

theorem State.Bounded.completeFrame (h : s.Bounded) (f : Frame) : (s.completeFrame f).Bounded := by
  unfold State.completeFrame
  split
  · exact h.inMask _ (h.actGo _ _)
  · exact h.inMask _ (h.actStop _)
  · exact h
  · exact h
  · exact h

/-! The mark unit (R120 to R125). -/

theorem State.Bounded.restand (h : s.Bounded) : s.restand.Bounded := by
  unfold State.restand
  split
  · exact h.setMark _
  · exact h

theorem State.Bounded.markActionRun (h : s.Bounded) : s.markActionRun.Bounded := by
  unfold State.markActionRun
  split
  · split
    · exact h.countMiss
    · exact h.placeCue _
  · exact h.placeCue _
  · exact h.raise _

theorem State.Bounded.markActionHalted (h : s.Bounded) : s.markActionHalted.Bounded := by
  unfold State.markActionHalted
  split
  · exact h
  · exact h
  · exact h.raise _

theorem State.Bounded.markFiring (h : s.Bounded) : s.markFiring.Bounded := by
  have hlatched := h.setMark { s.mark with latched := some s.mark.accepted }
  unfold State.markFiring
  dsimp only
  split
  · exact hlatched.markActionRun
  · exact hlatched.markActionHalted
  · exact hlatched.markActionHalted
  · exact hlatched

/-! The start record and RESTART (R103, R178 to R184). -/

theorem State.config_of_open (hopen : ¬ s.recordClosed = true) : s.halt.station = .config := by
  simp only [State.recordClosed, Bool.or_eq_true, decide_eq_true_eq, not_or, not_not] at hopen
  exact hopen.1

theorem State.Bounded.section1Answer (h : s.Bounded) (r : RawSection1) : (section1Answer r s).after.Bounded := by
  unfold Machine.section1Answer
  split
  · exact h
  · rename_i hopen
    split
    · exact h
    · refine h.setStart (State.config_of_open hopen) ⟨h.start.1, fun q hq => ?_⟩
      cases hq
      exact (inRange32_toInt r.lo).1

theorem State.Bounded.section1ArgsAnswer (h : s.Bounded) (args : SectionArgs RawSection1) :
    (section1ArgsAnswer args s).after.Bounded := by
  cases args with
  | wrongLength => exact h
  | badSection n => exact h
  | fields r => exact h.section1Answer r

theorem PeerRecord.Bounded.remarked {q : PeerRecord} (h : q.Bounded) (r : StartRecord) : (q.remarked r).Bounded := by
  unfold PeerRecord.remarked
  split
  · rename_i hp
    exact ⟨h.1, h.2.1, fun hno => by simp [hp] at hno⟩
  · exact h

theorem Store.Bounded.rangeCheckDue {st : Store} (h : st.Bounded) (due : Bool) :
    Store.Bounded { st with rangeCheckDue := due } := ⟨h.passes, h.elapsed, h.lapse⟩

theorem Store.Bounded.checkFrozen {st : Store} (h : st.Bounded) (r : StartRecord) : (st.checkFrozen r).Bounded := by
  unfold Store.checkFrozen
  split
  · exact h.rangeCheckDue true
  · exact h.checkRanges _ _

theorem State.Bounded.freeze (h : s.Bounded) (hc : s.halt.station = .config) {r : StartRecord}
    (hr : -2147483648 ≤ r.lo) : (s.freeze r).Bounded := by
  have hstart : (s.setStart { s.start with record := some r, staged := none }).Bounded := by
    refine h.setStart hc ⟨fun r' hr' => ?_, nofun⟩
    cases hr'
    exact hr
  have hpeers := hstart.setPeers (hstart.table.map fun _ hq => hq.remarked r)
  exact (hpeers.setStore (hpeers.store.checkFrozen r)).restand

theorem State.Bounded.section2Answer (h : s.Bounded) (r : RawSection2) : (section2Answer r s).after.Bounded := by
  unfold Machine.section2Answer
  split
  · exact h
  · rename_i hopen
    split
    · exact h
    · rename_i q hq
      split
      · exact h
      · exact h.freeze (State.config_of_open hopen) (h.start.2 q hq)

theorem Link.restarted_bounded (l : Link) : l.restarted.Bounded :=
  ⟨Counters.zero_bounded, ⟨Nat.zero_le _, le_refl 0⟩, Nat.zero_le _⟩

theorem Port.Bounded.restarted {p : Port} (h : p.Bounded) : p.restarted.Bounded :=
  ⟨⟨Nat.zero_le _, Nat.zero_le _, Nat.zero_le _⟩, h.measured, nofun, h.inFlight⟩

/-- RESTART leaves the axis at rest over a cleared record (R80, R184). -/
theorem State.Bounded.restarted (h : s.Bounded) (straps : Station) : (s.restarted straps).Bounded := by
  have he := h.endRecording
  exact State.bounded_iff.mpr ⟨Link.restarted_bounded _, RunningSlot.idle_bounded, Stick.reset_bounded,
    Peers.reset_bounded, he.store.discardDownload, he.drivePort.restarted, Start.unset_bounded straps,
    he.blend.1, fun _ => le_refl _, fun _ => rfl⟩

theorem State.Bounded.restartAnswer (h : s.Bounded) (straps : Station) : (restartAnswer straps s).after.Bounded := by
  unfold Machine.restartAnswer
  split
  · exact h
  · split
    · exact h
    · exact h.restarted straps

/-! The status, the counters and the trigger record (R110, R114, R118, R142, R175). -/

theorem State.Bounded.statusAnswer (h : s.Bounded) (named : Option Byte) : (statusAnswer named s).after.Bounded := by
  unfold Machine.statusAnswer
  split
  · exact h
  · split
    · exact h
    · split
      · exact h
      · exact h

theorem State.Bounded.countersAnswer (h : s.Bounded) (clear : Byte) : (countersAnswer clear s).after.Bounded := by
  unfold Machine.countersAnswer
  split
  · exact h
  · exact h.mapCounters fun _ _ => Counters.zero_bounded
  · exact h

theorem State.Bounded.armAnswer (h : s.Bounded) (a : ArmArgs) : (armAnswer a s).after.Bounded := by
  unfold Machine.armAnswer
  split
  · exact h
  · split
    · exact h
    · exact h.setTrigger _

/-! The preset store's requests (R5, R7 to R10, R16 to R21). -/

theorem modeFieldsOf_passes {b : RawModeBlock} {f : ModeFields} (hf : modeFieldsOf b = some f) :
    1 ≤ f.passes ∧ f.passes ≤ 255 := by
  obtain ⟨-, -, -, -, hp, -⟩ := modeFieldsOf_fields hf
  have hsome : ¬ modeFieldsOf b = none := by simp [hf]
  rw [modeFieldsOf_eq_none] at hsome
  have := b.passes.isLt
  omega

theorem Store.Bounded.openDownload {st : Store} (h : st.Bounded) (n : Station) (p : Preset) (k : Nat) {f : ModeFields}
    (hf : 1 ≤ f.passes ∧ f.passes ≤ 255) : (st.openDownload n p k f).Bounded := by
  have hfreed := h.freeIfReady p
  refine ⟨hfreed.passes_set rfl hf, hfreed.elapsed, fun d hd => ?_⟩
  cases hd
  exact Nat.zero_lt_succ 1999

theorem State.Bounded.openAnswer (h : s.Bounded) (n : Station) (a : OpenArgs) : (openAnswer n a s).after.Bounded := by
  unfold Machine.openAnswer
  split
  · rename_i p f _ hf
    split
    · exact h
    split
    · exact h
    split
    · exact h
    split
    · exact h
    split
    · exact h
    · exact h.setStore (h.store.openDownload _ _ _ (modeFieldsOf_passes hf))
  · exact h

/-- A download whose lapse count restarts at 0, with what else is written of the store. -/
theorem State.Bounded.setDownload (h : s.Bounded) (pool : Pool) {d : Download} (hd : d.lapse = 0) :
    (s.setStore { s.store with pool := pool, download := some d }).Bounded := by
  refine h.setStore ⟨h.store.passes, h.store.elapsed, fun d' hd' => ?_⟩
  cases hd'
  rw [hd]
  decide

theorem State.Bounded.writeOwned (h : s.Bounded) (d : Download) (start : Nat) (ks : List Keyframe) :
    (writeOwned d start ks s).after.Bounded := by
  have hkept := h.setDownload s.store.pool (d := d.restarted) rfl
  unfold Machine.writeOwned
  dsimp only
  split
  · exact hkept
  · split
    · exact hkept
    · exact h.setDownload _ rfl

theorem State.Bounded.writeAnswer (h : s.Bounded) (n : Station) (a : WriteArgs) : (writeAnswer n a s).after.Bounded := by
  unfold Machine.writeAnswer
  split
  · split
    · exact h
    split
    · exact h
    split
    · exact h
    split
    · exact h
    · exact h.writeOwned _ _ _
  · exact h

theorem State.Bounded.closeOwned (h : s.Bounded) (d : Download) : (closeOwned d s).after.Bounded := by
  unfold Machine.closeOwned
  dsimp only
  split
  · exact h.setStore ⟨h.store.passes_set rfl ((h.store.passes d.preset).of_fields rfl), h.store.elapsed, nofun⟩
  · exact h.setStore ⟨(h.store.free d.preset).passes, h.store.elapsed, nofun⟩

theorem State.Bounded.closeAnswer (h : s.Bounded) (n : Station) (b : Byte) : (closeAnswer n b s).after.Bounded := by
  unfold Machine.closeAnswer
  split
  · exact h
  split
  · exact h
  split
  · exact h
  split
  · exact h
  · exact h.closeOwned _

theorem State.Bounded.eraseAnswer (h : s.Bounded) (b : Byte) : (eraseAnswer b s).after.Bounded := by
  unfold Machine.eraseAnswer
  split
  · exact h
  split
  · exact h
  split
  · exact h
  split
  · exact h
  · exact h
  · exact h
  · exact h.setStore (h.store.free _)

theorem State.Bounded.editAnswer (h : s.Bounded) (a : EditArgs) : (editAnswer a s).after.Bounded := by
  unfold Machine.editAnswer
  split
  · rename_i p f _ hf
    split
    · exact h
    split
    · exact h
    split
    · exact h
    · exact h.setStore ⟨h.store.passes_set rfl (modeFieldsOf_passes hf), h.store.elapsed, h.store.lapse⟩
  · exact h

theorem State.Bounded.directoryAnswer (h : s.Bounded) (b : Byte) : (directoryAnswer b s).after.Bounded := by
  unfold Machine.directoryAnswer
  split
  · exact h
  · split
    · exact h
    · exact h

theorem State.Bounded.readAnswer (h : s.Bounded) (a : ReadArgs) : (readAnswer a s).after.Bounded := by
  unfold Machine.readAnswer
  split
  · exact h
  split
  · exact h
  split
  · exact h
  split
  · exact h
  split
  · exact h
  · exact h

theorem State.Bounded.compactAnswer (h : s.Bounded) : (compactAnswer s).after.Bounded := by
  unfold Machine.compactAnswer
  split
  · exact h
  · exact h.setStore ⟨h.store.passes, h.store.elapsed, h.store.lapse⟩

theorem State.Bounded.completeCompaction (h : s.Bounded) : s.completeCompaction.Bounded := by
  have hmoved := h.store.compacted
  cases hdue : s.store.rangeCheckDue with
  | false =>
    rw [State.completeCompaction_plain hdue]
    exact h.setStore hmoved
  | true =>
    have hchecked := hmoved.checkRanges s.record.lo s.record.hi
    rw [State.completeCompaction_due hdue]
    exact h.setStore (hchecked.rangeCheckDue false)

/-! Every command. -/

theorem State.Bounded.resetBlocks (straps : Station) (pins : Pins) : (s.resetBlocks straps pins).Bounded :=
  (State.afterReset_bounded straps pins).setPending s.pending

/-- A command whose outcome is a state within the ranges answers no other. -/
theorem bounded_of_next {u t : State} (hu : u.Bounded)
    (ht : (.next u : Host.Outcome State Fault Refusal) = .next t) : t.Bounded := by
  cases ht
  exact hu

section Events

variable {t : State} (h : s.Bounded)
include h

theorem execRstnAssert_bounded (ht : execRstnAssert s = .next t) : t.Bounded := by
  have hlink := (h.setPins { s.pins with rstn := false }).setLink
    (l := { s.link with haltSlot := none, cueList := [], stateSlot := none, replySlot := none, inFlight := none,
                        offer := none }) ⟨h.link.counters, h.link.window, Nat.zero_le _⟩
  have hport := hlink.setPort (p := { s.port with pendingRecord := none, inFlight := none })
    ⟨h.drivePort.runs, h.drivePort.measured, nofun, nofun⟩
  refine bounded_of_next (hport.setStore ?_) ht
  split
  · exact Store.reset_bounded
  · exact h.store

theorem execConfigExchangeInterval_bounded (ht : execConfigExchangeInterval s = .next t) : t.Bounded := by
  refine bounded_of_next ?_ ht
  split
  · exact (h.setPeers h.table.older).handHold
  · exact h

theorem execMarkSample_bounded (levels : BitVec 4) (ht : execMarkSample levels s = .next t) : t.Bounded := by
  have hsampled : (s.sampled levels).Bounded := h.setMark _
  refine bounded_of_next ?_ ht
  split
  · split
    · exact hsampled.restand.markFiring
    · exact hsampled.restand
  · exact h

theorem execDrdyRise_bounded (ht : execDrdyRise s = .next t) : t.Bounded := by
  refine bounded_of_next ?_ ht
  split
  · exact (h.setPins _).tryExchange
  · exact h.setPins _

theorem execExchangeComplete_bounded (fb : RawFeedback) (ht : execExchangeComplete fb s = .next t) : t.Bounded := by
  refine bounded_of_next ?_ ht
  split
  · split
    · rename_i sent hsent
      exact (h.judge hsent fb).tryExchange
    · exact h
  · exact h

theorem execContentionWindow_bounded (event : WindowEvent) (ht : execContentionWindow event s = .next t) :
    t.Bounded := by
  refine bounded_of_next ?_ ht
  split
  · exact h
  · cases event with
    | opening => exact h.openWindow
    | slot others => exact h.ownSlot others
    | whole others => exact h.openWindow.ownSlot others

theorem execTransmissionComplete_bounded (ht : execTransmissionComplete s = .next t) : t.Bounded := by
  refine bounded_of_next ?_ ht
  split
  · exact h
  · rename_i f _
    have hf := h.completeFrame f.frame
    exact hf.setLink ⟨hf.link.counters, hf.link.window, hf.link.cueList⟩

theorem execBadArrival_bounded (ht : execBadArrival s = .next t) : t.Bounded := by
  refine bounded_of_next ?_ ht
  split
  · exact h
  · exact h.countArrival true

theorem execErrorWindowEnd_bounded (bad : Bool) (ht : execErrorWindowEnd bad s = .next t) : t.Bounded := by
  refine bounded_of_next ?_ ht
  split
  · exact h.countArrival bad
  · exact h

theorem execCompactionComplete_bounded (ht : execCompactionComplete s = .next t) : t.Bounded := by
  refine bounded_of_next ?_ ht
  split
  · exact h.completeCompaction
  · exact h

end Events

/-- Every command keeps Bounded. -/
theorem exec_bounded (h : s.Bounded) (c : Instr) {t : State} (ht : exec c s = .next t) : t.Bounded := by
  cases c with
  | powerOnReset straps => exact bounded_of_next (State.Bounded.resetBlocks straps _) ht
  | rstnAssert => exact execRstnAssert_bounded h ht
  | rstnRelease straps => exact bounded_of_next (State.Bounded.resetBlocks straps _) ht
  | controlPeriodExpiry => exact bounded_of_next (h.expiryIf _) ht
  | seekCompletion => exact bounded_of_next (h.expiryIf _) ht
  | passEnd => exact bounded_of_next (h.expiryIf _) ht
  | haltComplete => exact bounded_of_next (h.expiryIf _) ht
  | downloadLapse => exact bounded_of_next (h.expiryIf _) ht
  | ownerLapse => exact bounded_of_next (h.expiryIf _) ht
  | contestExpiry => exact bounded_of_next (h.expiryIf _) ht
  | configExchangeInterval => exact execConfigExchangeInterval_bounded h ht
  | markSample levels => exact execMarkSample_bounded h levels ht
  | drdyRise => exact execDrdyRise_bounded h ht
  | exchangeComplete feedback => exact execExchangeComplete_bounded h feedback ht
  | contentionWindow event => exact execContentionWindow_bounded h event ht
  | transmissionComplete => exact execTransmissionComplete_bounded h ht
  | badArrival => exact execBadArrival_bounded h ht
  | errorWindowEnd bad => exact execErrorWindowEnd_bounded h bad ht
  | halt n origin causes epoch => exact bounded_of_next (h.arrive n fun _ hu => hu.actHalt origin causes) ht
  | resume n epoch => exact bounded_of_next (h.arrive n fun _ hu => hu.actResume epoch) ht
  | stick n sequence channels => exact bounded_of_next (h.arrive n fun _ hu => hu.actStick n sequence channels) ht
  | load n m id preset cond => exact bounded_of_next (h.arriveInMask n m fun _ hu => hu.actLoad id preset cond) ht
  | seek n m id => exact bounded_of_next (h.arriveInMask n m fun _ hu => hu.actSeek id) ht
  | go n m id => exact bounded_of_next (h.arriveInMask n m fun _ hu => hu.actGo m id) ht
  | stop n m id => exact bounded_of_next (h.arriveInMask n m fun _ hu => hu.actStop id) ht
  | hold n m id => exact bounded_of_next (h.arriveInMask n m fun _ hu => hu.actHold id) ht
  | release n m id => exact bounded_of_next (h.arriveInMask n m fun _ hu => hu.actRelease id) ht
  | loopEnd n m id => exact bounded_of_next (h.arriveInMask n m fun _ hu => hu.actLoopEnd id) ht
  | recStart n m preset interval =>
    exact bounded_of_next (h.arriveInMask n m fun _ hu => hu.actRecStart preset interval) ht
  | recStop n m => exact bounded_of_next (h.arriveInMask n m fun _ hu => hu.actRecStop) ht
  | state n report haltFirst => exact bounded_of_next (h.arrive n fun _ hu => hu.actState n report haltFirst) ht
  | serviceReply n => exact bounded_of_next (h.arrive n fun _ hu => hu) ht
  | unknownKind n => exact bounded_of_next (h.arrive n fun _ hu => hu) ht
  | ident header args => exact bounded_of_next (h.requestArgs header _ args fun _ _ hu => hu) ht
  | startRecordWriteSection1 header args =>
    exact bounded_of_next (h.request header _ fun _ hu => hu.section1ArgsAnswer args) ht
  | startRecordWriteSection2 header args =>
    exact bounded_of_next (h.requestArgs header _ args fun a _ hu => hu.section2Answer a) ht
  | restart header args straps =>
    exact bounded_of_next (h.arriveUnless _ _ fun _ hu =>
      hu.takeRequest header _ (hu.withArgs args fun _ => hu.restartAnswer straps)) ht
  | statusRead header args => exact bounded_of_next (h.requestArgs header _ args fun a _ hu => hu.statusAnswer a) ht
  | statusReadPeer header n => exact bounded_of_next (h.request header _ fun _ hu => hu.statusAnswer _) ht
  | countersRead header args =>
    exact bounded_of_next (h.requestArgs header _ args fun a _ hu => hu.countersAnswer a) ht
  | presetOpen header args => exact bounded_of_next (h.requestArgs header _ args fun a _ hu => hu.openAnswer _ a) ht
  | keyframeWrite header args =>
    exact bounded_of_next (h.requestArgs header _ args fun a _ hu => hu.writeAnswer _ a) ht
  | presetClose header args => exact bounded_of_next (h.requestArgs header _ args fun a _ hu => hu.closeAnswer _ a) ht
  | presetErase header args => exact bounded_of_next (h.requestArgs header _ args fun a _ hu => hu.eraseAnswer a) ht
  | presetEdit header args => exact bounded_of_next (h.requestArgs header _ args fun a _ hu => hu.editAnswer a) ht
  | directoryRead header args =>
    exact bounded_of_next (h.requestArgs header _ args fun a _ hu => hu.directoryAnswer a) ht
  | keyframeRead header args => exact bounded_of_next (h.requestArgs header _ args fun a _ hu => hu.readAnswer a) ht
  | poolCompact header args => exact bounded_of_next (h.requestArgs header _ args fun _ _ hu => hu.compactAnswer) ht
  | compactionComplete => exact execCompactionComplete_bounded h ht
  | triggerArm header args => exact bounded_of_next (h.requestArgs header _ args fun a _ hu => hu.armAnswer a) ht
  | triggerDisarm header args => exact bounded_of_next (h.requestArgs header _ args fun _ _ hu => hu.setTrigger _) ht
  | triggerRead header args => exact bounded_of_next (h.requestArgs header _ args fun _ _ hu => hu) ht
  | unknownRequestKind header kind => exact bounded_of_next (h.request header kind fun _ hu => hu) ht
  | drdyFall => exact bounded_of_next (h.setPins _) ht

/-- Settles O5: the front command keeps Bounded, and on an empty queue nothing changes. -/
theorem stepKeepsBounded : Obligations.StepKeepsBounded := by
  intro s t h ht
  unfold step at ht
  split at ht
  · exact bounded_of_next h ht
  · exact exec_bounded (h.setPending _) _ ht

end Sys2Proof.Machine

/-! SUPPORT. The limit stage at its edges (R68 to R73), the preset position on its segments (R57), and the hold record of the
configuration exchange interval (R78, R101, R154). -/

namespace Sys2Proof.Machine

/-! The envelopes and what is allowed in each direction (R69 to R71). -/

theorem envelope_of_nonpos (amax : Nat) {d : Int} (h : d ≤ 0) : envelope amax d = 0 := if_pos h

/-- The envelope is the floor square root of the capped product (R69, R70). -/
theorem envelope_spec (amax : Nat) {d : Int} (h : 0 < d) :
    envelope amax d * envelope amax d ≤ min (2 * amax * d.toNat) (2 ^ 62) ∧
      min (2 * amax * d.toNat) (2 ^ 62) < (envelope amax d + 1) * (envelope amax d + 1) := by
  have hcap : min (2 * amax * d.toNat) (2 ^ 62) < 2 ^ 64 := (Nat.min_le_right _ _).trans_lt (by decide)
  rw [envelope, if_neg (by omega)]
  exact isqrt_spec hcap

/-- A velocity within the envelope can be braked within the distance (R69). -/
theorem sq_le_of_le_envelope {amax n : Nat} {d : Int} (h : 0 < d) (hn : n ≤ envelope amax d) :
    n * n ≤ 2 * amax * d.toNat :=
  (Nat.mul_self_le_mul_self hn).trans ((envelope_spec amax h).1.trans (Nat.min_le_left _ _))

section Allowed

variable (l : Limits) (x : Int)

theorem Limits.allowedPos_switch (h : l.posLimit = true) : l.allowedPos x = 0 := if_pos h

theorem Limits.allowedNeg_switch (h : l.negLimit = true) : l.allowedNeg x = 0 := if_pos h

/-- Off the limit switch the rate limit, the range's envelope and the seek's envelope bound the move upwards (R69, R70). -/
theorem Limits.allowedPos_eq (h : l.posLimit = false) : l.allowedPos x =
    min (min l.vlim (envelope l.amax (l.hi - x)))
      (match l.seekTarget with
        | some p => if x < p then envelope l.amax (p - x) else l.vlim
        | none => l.vlim) := by
  rw [Limits.allowedPos, if_neg (by simp [h])]
  cases l.seekTarget with
  | none => dsimp only; omega
  | some p => dsimp only; split <;> omega

theorem Limits.allowedNeg_eq (h : l.negLimit = false) : l.allowedNeg x =
    min (min l.vlim (envelope l.amax (x - l.lo)))
      (match l.seekTarget with
        | some p => if p < x then envelope l.amax (x - p) else l.vlim
        | none => l.vlim) := by
  rw [Limits.allowedNeg, if_neg (by simp [h])]
  cases l.seekTarget with
  | none => dsimp only; omega
  | some p => dsimp only; split <;> omega

theorem Limits.allowedPos_le_range : l.allowedPos x ≤ min l.vlim (envelope l.amax (l.hi - x)) := by
  cases h : l.posLimit with
  | true => rw [l.allowedPos_switch x h]; exact Nat.zero_le _
  | false => rw [l.allowedPos_eq x h]; exact Nat.min_le_left _ _

theorem Limits.allowedNeg_le_range : l.allowedNeg x ≤ min l.vlim (envelope l.amax (x - l.lo)) := by
  cases h : l.negLimit with
  | true => rw [l.allowedNeg_switch x h]; exact Nat.zero_le _
  | false => rw [l.allowedNeg_eq x h]; exact Nat.min_le_left _ _

theorem Limits.allowedPos_le_seek {p : Int} (hp : l.seekTarget = some p) (hx : x < p) :
    l.allowedPos x ≤ envelope l.amax (p - x) := by
  cases h : l.posLimit with
  | true => rw [l.allowedPos_switch x h]; exact Nat.zero_le _
  | false =>
    rw [l.allowedPos_eq x h, hp]
    exact (Nat.min_le_right _ _).trans (if_pos hx).le

theorem Limits.allowedNeg_le_seek {p : Int} (hp : l.seekTarget = some p) (hx : p < x) :
    l.allowedNeg x ≤ envelope l.amax (x - p) := by
  cases h : l.negLimit with
  | true => rw [l.allowedNeg_switch x h]; exact Nat.zero_le _
  | false =>
    rw [l.allowedNeg_eq x h, hp]
    exact (Nat.min_le_right _ _).trans (if_pos hx).le

/-- Nothing is allowed upwards from at or above the high end (R69, R71). -/
theorem Limits.allowedPos_above (h : l.hi ≤ x) : l.allowedPos x = 0 := by
  have := l.allowedPos_le_range x
  rw [envelope_of_nonpos _ (by omega)] at this
  omega

end Allowed

/-! The two clamps and the travel clamp (R72, R73). -/

theorem Limits.velocity_eq (l : Limits) (x v target : Int) : l.velocity x v target =
    min (max (min (max (target - x) (-(l.allowedNeg x : Int))) (l.allowedPos x)) (v - l.amax)) (v + l.amax) := rfl

theorem travelClamp_high {lo hi v : Int} {b : Blend} (h : b.x ≤ hi ∧ hi < b.x + v) :
    travelClamp lo hi b v = { b with x := hi, v := hi - b.x, atLimit := true } := if_pos h

theorem travelClamp_low {lo hi v : Int} {b : Blend} (h : ¬ (b.x ≤ hi ∧ hi < b.x + v)) (h' : lo ≤ b.x ∧ b.x + v < lo) :
    travelClamp lo hi b v = { b with x := lo, v := lo - b.x, atLimit := true } := (if_neg h).trans (if_pos h')

theorem travelClamp_free {lo hi v : Int} {b : Blend} (h : ¬ (b.x ≤ hi ∧ hi < b.x + v))
    (h' : ¬ (lo ≤ b.x ∧ b.x + v < lo)) :
    travelClamp lo hi b v = { b with x := b.x + v, v := v, atLimit := false } := (if_neg h).trans (if_neg h')

/-- Settles O23: the envelopes bound what is allowed, and the order of the clamps gives the rest. -/
theorem limitStageClamps : Obligations.LimitStageClamps := by
  refine ⟨fun l b target => ?_, fun amax d => ⟨envelope_of_nonpos amax, envelope_spec amax⟩, fun l b target => ?_⟩
  · have hpos := l.allowedPos_le_range b.x
    have hneg := l.allowedNeg_le_range b.x
    refine ⟨l.allowedPos_switch b.x, l.allowedNeg_switch b.x, l.allowedPos_above b.x, l.allowedNeg_below,
      hpos.trans (Nat.min_le_left _ _), hneg.trans (Nat.min_le_left _ _),
      fun hx => sq_le_of_le_envelope (by omega) (hpos.trans (Nat.min_le_right _ _)),
      fun hx => sq_le_of_le_envelope (by omega) (hneg.trans (Nat.min_le_right _ _)),
      fun p hp hx => sq_le_of_le_envelope (by omega) (l.allowedPos_le_seek b.x hp hx),
      fun p hp hx => sq_le_of_le_envelope (by omega) (l.allowedNeg_le_seek b.x hp hx), ?_⟩
    rw [l.velocity_eq]
    refine ⟨?_, ?_, fun hreach => ?_, fun hreach => ?_⟩ <;> omega
  · intro v
    refine ⟨l.allowedPos_eq b.x, l.allowedNeg_eq b.x, l.velocity_eq b.x b.v target, fun hdown hup hstep => ?_,
      fun hx hv => travelClamp_high ⟨hx, hv⟩, fun hhigh hx hv => travelClamp_low hhigh ⟨hx, hv⟩, travelClamp_free⟩
    have hv : v = _ := l.velocity_eq b.x b.v target
    omega

/-! The preset position (R57). -/

/-- Before the second keyframe's time the first segment holds T. -/
theorem presetPosition_first {a b : Keyframe} {rest : List Keyframe} {t : Nat} (h : t < b.time * 65536) :
    presetPosition (a :: b :: rest) t = segmentPosition a b t := if_pos h

/-- From the second keyframe's time on the first plays no part. -/
theorem presetPosition_later {a b : Keyframe} {rest : List Keyframe} {t : Nat} (h : b.time * 65536 ≤ t) :
    presetPosition (a :: b :: rest) t = presetPosition (b :: rest) t := if_neg (Nat.not_lt.mpr h)

/-- The first keyframe of a rising list is not later than any of it. -/
theorem head_time_le {a : Keyframe} {ks : List Keyframe} (h : (a :: ks).Pairwise fun a b => a.time < b.time)
    {k : Keyframe} (hk : k ∈ a :: ks) : a.time ≤ k.time := by
  rcases List.mem_cons.mp hk with rfl | hk
  · exact le_refl _
  · exact ((List.pairwise_cons.mp h).1 k hk).le

/-- From the last keyframe's time on the position is the last one. -/
theorem presetPosition_last (ks : List Keyframe) (hne : ks ≠ []) (hrise : ks.Pairwise fun a b => a.time < b.time) (t : Nat)
    (ht : (ks.getLast hne).time * 65536 ≤ t) : presetPosition ks t = fu (ks.getLast hne).position := by
  induction ks with
  | nil => exact absurd rfl hne
  | cons a ks ih =>
    cases ks with
    | nil => rfl
    | cons b rest =>
      have htail := (List.pairwise_cons.mp hrise).2
      rw [List.getLast_cons (List.cons_ne_nil b rest)] at ht ⊢
      have hb := head_time_le htail (List.getLast_mem (List.cons_ne_nil b rest))
      rw [presetPosition_later ((Nat.mul_le_mul_right _ hb).trans ht)]
      exact ih (List.cons_ne_nil b rest) htail ht

/-- Between two neighbouring keyframes the position is that of their segment. -/
theorem presetPosition_segment (ks : List Keyframe) (hrise : ks.Pairwise fun a b => a.time < b.time) (t : Nat) :
    ∀ (k : Nat) (hk : k + 1 < ks.length), ks[k].time * 65536 ≤ t → t < ks[k + 1].time * 65536 →
      presetPosition ks t = segmentPosition ks[k] ks[k + 1] t := by
  induction ks with
  | nil => intro k hk; cases hk
  | cons a ks ih =>
    intro k hk hfrom hto
    cases ks with
    | nil => simp at hk
    | cons b rest =>
      cases k with
      | zero => exact presetPosition_first hto
      | succ k =>
        have htail := (List.pairwise_cons.mp hrise).2
        have hk' : k + 1 < (b :: rest).length := by simpa using hk
        have hb := head_time_le htail (List.getElem_mem (Nat.lt_of_succ_lt hk'))
        rw [presetPosition_later ((Nat.mul_le_mul_right _ hb).trans hfrom)]
        exact ih htail k hk' hfrom hto

/-- Settles O24: the search for the segment that holds T, by induction on the keyframes. -/
theorem presetPositionFollowsTheKeyframes : Obligations.PresetPositionFollowsTheKeyframes := by
  rintro ks ⟨-, hrise⟩ hne T
  refine ⟨fun hT => ?_, fun k hk hfrom hto => ?_⟩
  · rw [List.getLastD_eq_getLast?, List.getLast?_eq_some_getLast hne] at hT ⊢
    exact presetPosition_last ks hne hrise T hT
  · rw [presetPosition_segment ks hrise T k hk hfrom hto, segmentPosition]
    cases ks[k].shape <;> rfl

/-! The configuration exchange interval (R78, R101, R154). -/

variable {s : State}

/-- In CONFIG a raised DRIVE_LOST latches nothing (R128). -/
theorem State.raise_driveLost_config (h : s.halt.station = .config) : s.raise causeDriveLost = s := by
  have hmask : causeDriveLost &&& causeNumberClash = 0#8 := by decide
  rw [State.raise_config h (by decide), hmask, State.latch, BitVec.or_zero]
  rfl

/-- In CONFIG a missed exchange is stored and counted only (R128, R149). -/
theorem State.missExchange_config (h : s.halt.station = .config) :
    s.missExchange =
      (s.setPort { s.port with lastExchange := .missed, missRun := satAdd 255 s.port.missRun 1 }).countDriveMiss := by
  by_cases hrun : satAdd 255 s.port.missRun 1 = 3
  · simp only [State.missExchange, causeIf, hrun, decide_true, if_true]
    exact State.raise_driveLost_config h
  · exact State.missExchange_quiet hrun

/-- In CONFIG a handover moves the drive port and DRIVE_MISS only. -/
theorem State.handOver_config (position velocity : Int) (enable halting : Bool) (h : s.halt.station = .config) :
    let t := s.handOver position velocity enable halting
    t = (s.setPort t.port).setLink { s.link with counters := t.link.counters } := by
  dsimp only
  cases hp : s.port.pendingRecord with
  | none =>
    rw [State.handOver_fresh _ _ _ _ hp, State.tryExchange_eq]
    rfl
  | some p =>
    rw [State.handOver_replaces _ _ _ _ (by rw [hp]; rfl), State.tryExchange_eq,
      State.missExchange_config (s := s.setPort (s.port.handed position velocity enable halting)) h]
    rfl

/-- The ageing of one record of the peer table (R101). -/
theorem Peers.older_record (p : Peers) (n : Station) : p.older.records[n] =
    if p.records[n].present then { p.records[n] with age := min (p.records[n].age + 1) 255 } else p.records[n] :=
  mapTable_get PeerRecord.older p.records n.val n.isLt

@[simp] theorem Peers.older_coupling (p : Peers) : p.older.coupling = p.coupling := rfl

/-- Settles O31: the ageing of the table, then a handover in CONFIG. -/
theorem configExchangeHandsTheHoldRecord : Obligations.ConfigExchangeHandsTheHoldRecord := by
  refine fun s hrst => ⟨fun hc => ?_, fun hc => congrArg Host.Outcome.next (if_neg fun h => hc h.2)⟩
  have hexec : exec .configExchangeInterval s = .next (s.setPeers s.peers.older).handHold :=
    congrArg Host.Outcome.next (if_pos ⟨hrst, hc⟩)
  have hframe := State.handOver_config (s := s.setPeers s.peers.older)
    (if s.port.feedbackSeen then s.port.measured else 0) 0 false false hc
  obtain ⟨hrec, hseq⟩ := State.handOver_record (s := s.setPeers s.peers.older)
    (if s.port.feedbackSeen then s.port.measured else 0) 0 false false
  rw [State.handHold, State.setPeers_port] at hexec
  generalize (s.setPeers s.peers.older).handOver _ _ _ _ = t at hexec hframe hrec hseq
  have hpeers : t.peers = s.peers.older := by rw [hframe]; rfl
  refine ⟨t, _, hexec, fun n => ?_, rfl, hrec, hseq, ?_⟩
  · rw [hpeers]
    exact Peers.older_record s.peers n
  · rw [hframe]
    simp

end Sys2Proof.Machine

/-! SUPPORT. What an expiry in RUN makes of the axis: the supply, the source and the limits it reads, the setpoint it stores for
each source (R27, R56), the slot of the running cue after the modes (R60 to R67), and the record it hands over (R75, R146). -/

namespace Sys2Proof.Machine

variable {s : State}

/-! The supply and the source (R27, R64, R91). -/

/-- What stick intake supplies, by whether the stick is live (R91). -/
theorem State.stickSupply_eq : s.stickSupply =
    let live : Bool := s.stick.owner.isSome && decide (s.stick.phase ≠ .zero)
    { d := if live then s.stick.deflection else 0
      v := if live then stickVelocity s.record s.stick.gain s.stick.deflection else 0
      live := live } := by
  dsimp only
  unfold State.stickSupply
  split
  · rename_i h
    simp [h]
  · rename_i h
    rw [show (s.stick.owner.isSome && decide (s.stick.phase ≠ .zero)) = false by simpa using h]
    rfl

theorem State.source_cue (h : s.running.state ≠ .idle) : s.source = .cue := if_pos h

theorem State.source_seek (hidle : s.running.state = .idle) (h : s.next.state = .seeking ∨ s.next.state = .ready) :
    s.source = .seek := (if_neg (not_not.mpr hidle)).trans (if_pos h)

theorem State.source_manual (hidle : s.running.state = .idle)
    (h : ¬ (s.next.state = .seeking ∨ s.next.state = .ready)) : s.source = .manual :=
  (if_neg (not_not.mpr hidle)).trans (if_neg h)

theorem State.source_eq_seek_iff : s.source = .seek ↔
    s.running.state = .idle ∧ (s.next.state = .seeking ∨ s.next.state = .ready) := by
  unfold State.source
  split
  · simp_all
  · split <;> simp_all

/-- The source depends on the states of the two slots only. -/
theorem State.source_congr {t : State} (hrun : t.running.state = s.running.state) (hnext : t.next.state = s.next.state) :
    t.source = s.source := by
  rw [State.source, State.source, hrun, hnext]

/-! What the ageing and the cue engine leave to the blend. -/

@[simp] theorem State.ageExpiry_linkPoor : s.ageExpiry.link.linkPoor = s.link.linkPoor := by
  rw [State.ageExpiry, State.downloadExpiry_link]
  rfl

theorem State.expiry_peers : s.expiry.peers = s.ageExpiry.peers :=
  State.expiry_frame.2.2.2.1.trans State.ageExpiry_peers.symm

@[simp] theorem State.cueExpiry_running_state : s.cueExpiry.running.state = s.running.state := by
  rw [State.cueExpiry_keeps]

@[simp] theorem State.cueExpiry_next : s.cueExpiry.next = s.next := by rw [State.cueExpiry_eq]; rfl
@[simp] theorem State.cueExpiry_store : s.cueExpiry.store = s.store := by rw [State.cueExpiry_eq]; rfl
@[simp] theorem State.cueExpiry_blend : s.cueExpiry.blend = s.blend := by rw [State.cueExpiry_eq]; rfl
@[simp] theorem State.cueExpiry_port : s.cueExpiry.port = s.port := by rw [State.cueExpiry_eq]; rfl
@[simp] theorem State.cueExpiry_record : s.cueExpiry.record = s.record := by rw [State.cueExpiry_eq]; rfl
@[simp] theorem State.cueExpiry_cueRate : s.cueExpiry.cueRate = s.cueRate := by rw [State.cueExpiry_eq]; rfl

@[simp] theorem State.cueExpiry_source : s.cueExpiry.source = s.source := State.source_congr (by simp) (by simp)
@[simp] theorem State.ageExpiry_source : s.ageExpiry.source = s.source := State.source_congr (by simp) (by simp)

/-- The rate an expiry limits by reads the coupling value that the same expiry has formed (R68, R108). -/
theorem State.ageExpiry_cueRate : s.ageExpiry.cueRate = (s.setPeers s.expiry.peers).cueRate := by
  unfold State.cueRate State.guarded State.coupled
  rw [State.expiry_peers, State.ageExpiry_record, State.ageExpiry_linkPoor]
  rfl

/-- The limits of an expiry: the rate, held to the seek's while a seek is the source (R56, R68 to R70). -/
theorem State.expiry_limits {seeks : Bool} (h : s.source = .seek ↔ seeks = true) :
    s.ageExpiry.cueExpiry.limits =
      { vlim := if seeks then min (s.setPeers s.expiry.peers).cueRate s.record.vseek
          else (s.setPeers s.expiry.peers).cueRate
        amax := s.record.amax, lo := fu s.record.lo, hi := fu s.record.hi
        seekTarget := if seeks then some (s.ageExpiry.store.startPosition s.next.preset) else none
        posLimit := s.port.posLimit, negLimit := s.port.negLimit } := by
  have hrate : s.ageExpiry.cueExpiry.rateLimit =
      if s.source = .seek then min s.ageExpiry.cueExpiry.cueRate s.record.vseek else s.ageExpiry.cueExpiry.cueRate := by
    rw [State.rateLimit, State.cueExpiry_source, State.ageExpiry_source, State.cueRate, State.cueExpiry_record,
      State.ageExpiry_record]
  rw [State.cueExpiry_cueRate, State.ageExpiry_cueRate] at hrate
  simp [State.limits, hrate, h]

/-! The setpoint an expiry stores, for each source (R27, R56). -/

/-- The setpoint of an expiry is the one stored before its readers. -/
theorem State.expiry_setpoint (hrun : s.halt.station = .run) :
    s.expiry.blend.x = s.storedSetpoint.blend.x ∧ s.expiry.blend.v = s.storedSetpoint.blend.v ∧
    s.expiry.blend.atLimit = s.storedSetpoint.blend.atLimit := by
  obtain ⟨-, -, -, -, -, -, -, hx, hv, hat, -⟩ := State.expiry_frame (s := s)
  obtain ⟨-, -, -, -, -, -, -, -, -, kx, kv, kat, -⟩ := State.readSetpoint_frame (s := s.storedSetpoint)
  rw [State.computed_run hrun] at hx hv hat
  exact ⟨hx.trans kx, hv.trans kv, hat.trans kat⟩

theorem State.blendRun_manual (sup : Supply) (h : s.source = .manual) :
    s.blendRun sup = s.setBlend (limitStage s.limits s.blend (s.blend.x + sup.v)) := by
  rw [State.blendRun, h]

theorem State.blendRun_seek (sup : Supply) (h : s.source = .seek) :
    s.blendRun sup = s.setBlend (limitStage s.limits s.blend (s.store.startPosition s.next.preset)) := by
  rw [State.blendRun, h]

theorem State.storedSetpoint_manual (h : s.source = .manual) :
    s.storedSetpoint.blend = limitStage s.ageExpiry.cueExpiry.limits s.blend (s.blend.x + s.stickSupply.v) := by
  rw [State.storedSetpoint_eq, State.blendRun_manual _ (by simpa using h)]
  simp

theorem State.storedSetpoint_seek (h : s.source = .seek) :
    s.storedSetpoint.blend =
      limitStage s.ageExpiry.cueExpiry.limits s.blend (s.ageExpiry.store.startPosition s.next.preset) := by
  rw [State.storedSetpoint_eq, State.blendRun_seek _ (by simpa using h)]
  simp

/-! The slot of the running cue after the modes (R60 to R67). -/

section Modes

variable (r : StartRecord) (sup : Supply) (p : Int) (taking : Bool) (run : RunningSlot)

/-- The take target plays no part outside TAKE (R63). -/
theorem modeStep_taking (other : Bool) :
    modeStep r sup p (if run.mode = .take then taking else other) run = modeStep r sup p taking run := by
  by_cases h : run.mode = .take
  · rw [if_pos h]
  · unfold modeStep
    split
    · rfl
    · rfl
    · rename_i h'
      exact absurd h' h

/-- The modes neither read nor write what the cue engine's work stores. -/
theorem modeStep_engine (ability paceEff cueTime : Nat) (peerLost freshStart : Bool) :
    modeStep r sup p taking
        { run with ability := ability, paceEff := paceEff, peerLost := peerLost, cueTime := cueTime,
                   freshStart := freshStart } =
      { modeStep r sup p taking run with
        ability := ability, paceEff := paceEff, peerLost := peerLost, cueTime := cueTime, freshStart := freshStart } := by
  obtain ⟨_, _, _, mode, _⟩ := run
  cases mode <;> rfl

theorem modeStep_trimOffset : (modeStep r sup p taking run).trimOffset =
    if run.mode = .trim then clamp (run.trimOffset + sup.v) (-fu run.trimRange) (fu run.trimRange)
    else run.trimOffset := by
  unfold modeStep
  cases run.mode <;> rfl

theorem modeStep_handback : (modeStep r sup p taking run).handback =
    if run.mode = .take then handbackStep r sup run else run.handback := by
  unfold modeStep
  cases run.mode <;> rfl

theorem modeStep_takeWeight : (modeStep r sup p taking run).takeWeight =
    if run.mode = .take then weightStep sup taking run else run.takeWeight := by
  unfold modeStep
  cases run.mode <;> rfl

theorem modeStep_shadow : (modeStep r sup p taking run).shadow =
    if run.mode = .take then shadowStep r sup p (weightStep sup taking run) run else run.shadow := by
  unfold modeStep
  cases run.mode <;> rfl

/-- The base that the modes leave (R61, R62, R65). -/
theorem cueBase_modeStep : cueBase p (modeStep r sup p taking run) =
    match run.mode with
    | .play => p
    | .trim => p + clamp (run.trimOffset + sup.v) (-fu run.trimRange) (fu run.trimRange)
    | .take => p + (shadowStep r sup p (weightStep sup taking run) run - p) * (weightStep sup taking run : Nat) / 4096 := by
  cases h : run.mode <;> simp [cueBase, modeStep, trimStep, takeStep, h]

/-- Catch-in reads a weight and an origin that no mode writes (R67). -/
theorem catchTarget_modeStep (base : Int) : catchTarget base (modeStep r sup p taking run) = catchTarget base run := by
  rw [modeStep_keeps]
  rfl

end Modes

/-- The preset position of an expiry, at the cue time the expiry has advanced to (R57). -/
def State.expiryPosition (s : State) : Int :=
  presetPosition (s.ageExpiry.store.keyframes s.running.preset) s.ageExpiry.cueExpiry.running.cueTime

/-- The take target an expiry stores: stepped for a TAKE cue, kept otherwise (R63). -/
def State.expiryTaking (s : State) : Bool :=
  if s.running.mode = .take then takingStep s.record s.stickSupply s.running s.blend.taking else s.blend.taking

/-- The RUNNING slot an expiry's modes leave, apart from the cue engine's own fields (R61 to R65). -/
def State.expirySlot (s : State) : RunningSlot :=
  modeStep s.record s.stickSupply s.expiryPosition s.expiryTaking s.running

theorem State.expirySlot_eq : s.expirySlot =
    modeStep s.record s.stickSupply s.expiryPosition (takingStep s.record s.stickSupply s.running s.blend.taking)
      s.running := modeStep_taking ..

/-- What an expiry with a running cue stores: the slot after the modes and the step of the catch-in, and the move of the limit
stage toward the base they leave (R60 to R67). -/
theorem State.storedSetpoint_cue (h : s.running.state ≠ .idle) :
    s.storedSetpoint.running =
      { catchStep s.record s.expirySlot with
        ability := s.ageExpiry.cueExpiry.running.ability, paceEff := s.ageExpiry.cueExpiry.running.paceEff,
        peerLost := s.ageExpiry.cueExpiry.running.peerLost, cueTime := s.ageExpiry.cueExpiry.running.cueTime,
        freshStart := s.ageExpiry.cueExpiry.running.freshStart } ∧
    s.storedSetpoint.blend =
      { limitStage s.ageExpiry.cueExpiry.limits s.blend
          (catchTarget (cueBase s.expiryPosition s.expirySlot) s.expirySlot) with taking := s.expiryTaking } := by
  have hsource : s.ageExpiry.cueExpiry.source = .cue := by simpa using State.source_cue h
  have hslot : s.ageExpiry.cueExpiry.running = _ := State.cueExpiry_keeps
  rw [State.ageExpiry_running] at hslot
  have hposition : presetPosition (s.ageExpiry.store.keyframes s.ageExpiry.cueExpiry.running.preset)
      s.ageExpiry.cueExpiry.running.cueTime = s.expiryPosition := by rw [hslot]; rfl
  have htaking : (if s.ageExpiry.cueExpiry.running.mode = .take then
      takingStep s.record s.stickSupply s.ageExpiry.cueExpiry.running s.blend.taking else s.blend.taking) =
      s.expiryTaking := by rw [hslot]; rfl
  have hstep : modeStep s.record s.stickSupply s.expiryPosition s.expiryTaking s.ageExpiry.cueExpiry.running = _ :=
    (congrArg _ hslot).trans (modeStep_engine ..)
  rw [State.storedSetpoint_eq, State.blendRun, hsource]
  simp only [State.cueExpiry_store, State.cueExpiry_record, State.ageExpiry_record, State.cueExpiry_blend,
    State.ageExpiry_blend, State.setBlend_blend, State.setBlend_running, State.setRunning_running, hposition, htaking,
    hstep]
  exact ⟨rfl, rfl⟩

/-- An expiry that does not end the cue keeps the take target it has stored (R46, R63). -/
theorem State.expiry_blend_kept (h : s.StoreSound) (hrst : s.pins.rstn = true) (hrun : s.halt.station = .run)
    (hs : s.running.state ≠ .idle) (hq : s.handsOverQuietly)
    (hpass : s.passEnds = false ∨ s.running.cycle = true ∨ 1 < s.running.passesLeft) :
    s.expiry.blend = s.storedSetpoint.blend := by
  obtain ⟨-, -, -, hcycle, -, -, hleft⟩ := State.storedSetpoint_pass (s := s)
  rw [(State.expiry_run hrun hq).2.2.1, State.readSetpoint_playing h hrst hrun hs]
  split
  · rename_i hend
    rw [State.endPass_restarts (by simpa [hend, hcycle, hleft] using hpass)]
    simp [State.restartPass]
  · simp

/-- An expiry within the pass leaves the slot as the blend has stored it (R45). -/
theorem State.expiry_running_inPass (h : s.StoreSound) (hrst : s.pins.rstn = true) (hrun : s.halt.station = .run)
    (hs : s.running.state ≠ .idle) (hq : s.handsOverQuietly) (hpass : s.passEnds = false) :
    s.expiry.running = s.storedSetpoint.running := by
  rw [(State.expiry_run hrun hq).1, State.readSetpoint_playing h hrst hrun hs, if_neg (by simp [hpass]),
    State.recordExpiry_running]

/-- The catch-in that the blend finds is the one that stood before the expiry (R67). -/
theorem State.expirySlot_catch :
    s.expirySlot.catchWeight = s.running.catchWeight ∧ s.expirySlot.catchOrigin = s.running.catchOrigin := by
  rw [State.expirySlot, modeStep_keeps]
  exact ⟨rfl, rfl⟩

/-- An expiry that does not end the cue stores what the modes leave (R62 to R65). -/
theorem State.expiry_modes_kept (h : s.StoreSound) (hrst : s.pins.rstn = true) (hrun : s.halt.station = .run)
    (hs : s.running.state ≠ .idle) (hq : s.handsOverQuietly)
    (hpass : s.passEnds = false ∨ s.running.cycle = true ∨ 1 < s.running.passesLeft) :
    s.expiry.running.trimOffset = s.expirySlot.trimOffset ∧ s.expiry.running.handback = s.expirySlot.handback ∧
    s.expiry.running.takeWeight = s.expirySlot.takeWeight ∧ s.expiry.running.shadow = s.expirySlot.shadow := by
  rw [State.expiry_running_kept h hrst hrun hs hq hpass, (State.storedSetpoint_cue hs).1]
  exact ⟨rfl, rfl, rfl, rfl⟩

/-! The record handed over (R75, R146). -/

/-- The computation of an expiry leads neither into HALTING or HALTED nor out of them (R133). -/
theorem State.computed_halting_iff : s.computed.halt.station = .halting ∨ s.computed.halt.station = .halted ↔
    s.halt.station = .halting ∨ s.halt.station = .halted := by
  rcases State.computed_station (s := s) with h | ⟨h, h'⟩
  · rw [h]
  · simp [h, h']

theorem State.timerRuns_outside (hrst : s.pins.rstn = true) (h : s.halt.station ≠ .config) : s.timerRuns = true := by
  simp [State.timerRuns, hrst, h]

/-- Settles O19, by the source of the target and, for a running cue, by the modes' work on its slot. -/
theorem expiryMovesTheAxis : Obligations.ExpiryMovesTheAxis := by
  refine ⟨fun s hrst hrun => ⟨s.expiry, exec_controlPeriodExpiry (State.timerRuns_run hrst hrun), ?_⟩,
    fun s hrst hst => ?_⟩
  · intro run r st seeks p0 coupled guarded l moves live d vs T P trim count taking w y base target
    have hlimits : s.ageExpiry.cueExpiry.limits = l :=
      State.expiry_limits (seeks := seeks) (by rw [State.source_eq_seek_iff]; simp [seeks, run])
    have hsup : s.stickSupply = { d := d, v := vs, live := live } := State.stickSupply_eq
    have hmoves : ∀ {b : Blend} {goal : Int}, s.storedSetpoint.blend = b →
        b.x = (limitStage l s.blend goal).x ∧ b.v = (limitStage l s.blend goal).v ∧
          b.atLimit = (limitStage l s.blend goal).atLimit → moves goal := fun hb hgoal => by
      obtain ⟨hx, hv, hat⟩ := State.expiry_setpoint hrun
      rw [hb] at hx hv hat
      exact ⟨hx.trans hgoal.1, hv.trans hgoal.2.1, hat.trans hgoal.2.2⟩
    refine ⟨fun hidle hnext => ?_, fun hidle hnext => ?_, fun hplays => ⟨?_, fun hsound hq hpass => ?_⟩⟩
    · have hb := State.storedSetpoint_manual (State.source_manual hidle (by rcases hnext with h | h <;> simp [h]))
      rw [hlimits, hsup] at hb
      exact hmoves hb ⟨rfl, rfl, rfl⟩
    · have hb := State.storedSetpoint_seek (State.source_seek hidle hnext)
      rw [hlimits] at hb
      exact hmoves hb ⟨rfl, rfl, rfl⟩
    · have hb := (State.storedSetpoint_cue hplays).2
      have htarget : catchTarget (cueBase s.expiryPosition s.expirySlot) s.expirySlot = target := by
        rw [State.expirySlot_eq, cueBase_modeStep, catchTarget_modeStep, hsup]
        rfl
      rw [hlimits, htarget] at hb
      exact hmoves hb ⟨rfl, rfl, rfl⟩
    · obtain ⟨htrim, hcount, hweight, hshadow⟩ := State.expiry_modes_kept hsound hrst hrun hplays hq hpass
      have htaken := (congrArg Blend.taking (State.expiry_blend_kept hsound hrst hrun hplays hq hpass)).trans
        (congrArg Blend.taking (State.storedSetpoint_cue hplays).2)
      rw [State.expirySlot_eq, hsup] at htrim hcount hweight hshadow
      rw [State.expiryTaking, hsup] at htaken
      refine ⟨htrim.trans (modeStep_trimOffset ..), hcount.trans (modeStep_handback ..), htaken,
        hweight.trans (modeStep_takeWeight ..), hshadow.trans (modeStep_shadow ..), fun hno => ?_⟩
      obtain ⟨hcatch, horigin⟩ := State.expirySlot_catch (s := s)
      rw [State.expiry_running_inPass hsound hrst hrun hplays hq hno, (State.storedSetpoint_cue hplays).1]
      exact ⟨congrArg (· - r.catchStep) hcatch, horigin⟩
  · obtain ⟨hrec, hseq⟩ := State.expiry_record (s := s)
    obtain ⟨-, -, -, -, -, -, -, hx, hv, -⟩ := State.expiry_frame (s := s)
    refine ⟨s.expiry, _, exec_controlPeriodExpiry (State.timerRuns_outside hrst hst), hrec, rfl, hseq, ?_, hv.symm, rfl, ?_⟩
    · rw [hx]
      rfl
    · simpa using State.computed_halting_iff (s := s)

end Sys2Proof.Machine

/-! SUPPORT. Stick shaping at its edges: the stretch past the deadband, the expo curve, and the rate they give (R92, R93). -/

namespace Sys2Proof.Machine

/-! The stretch past the deadband and the expo curve (R92). -/

/-- The deflection past the deadband, stretched back to full scale (R92). -/
def stretched (deadband m : Nat) : Nat := (m - deadband) * 32767 / (32767 - deadband)

/-- The expo curve: a cubic and a straight part, weighted by expo in 256 (R92). -/
def expoCurve (expo m : Nat) : Nat := (expo * (m ^ 3 / 32767 ^ 2) + (256 - expo) * m) / 256

theorem stretched_mono (deadband : Nat) {m n : Nat} (h : m ≤ n) : stretched deadband m ≤ stretched deadband n := by
  unfold stretched
  gcongr

theorem stretched_full {deadband : Nat} (h : deadband < 32767) : stretched deadband 32767 = 32767 :=
  Nat.mul_div_cancel_left 32767 (Nat.sub_pos_of_lt h)

/-- The first count past the deadband stretches to 1, for the largest deadband takes a quarter of the scale only. -/
theorem stretched_first {deadband : Nat} (h : deadband ≤ 8191) : stretched deadband (deadband + 1) = 1 := by
  rw [stretched, Nat.add_sub_cancel_left]
  exact Nat.div_eq_of_lt_le (by omega) (by omega)

theorem expoCurve_mono (expo : Nat) {m n : Nat} (h : m ≤ n) : expoCurve expo m ≤ expoCurve expo n := by
  unfold expoCurve
  gcongr

/-- The two parts of the curve meet at full deflection, whatever their weights. -/
theorem expoCurve_full {expo : Nat} (h : expo ≤ 256) : expoCurve expo 32767 = 32767 := by
  have hcube : 32767 ^ 3 / 32767 ^ 2 = 32767 := by norm_num
  rw [expoCurve, hcube, ← Nat.add_mul, Nat.add_sub_cancel' h, Nat.mul_div_cancel_left _ (by decide)]

/-- Any expo takes the curve at 1 below one whole count. -/
theorem expoCurve_one {expo : Nat} (h : 0 < expo) : expoCurve expo 1 = 0 := by
  have hcube : 1 ^ 3 / 32767 ^ 2 = 0 := by norm_num
  rw [expoCurve, hcube]
  exact Nat.div_eq_of_lt (by omega)

/-! The shaped rate (R92, R93). -/

variable {r : StartRecord} {gain m n : Nat}

theorem shapedRate_dead (h : m ≤ r.deadband) : shapedRate r gain m = 0 := if_pos h

theorem shapedRate_past (h : r.deadband < m) : shapedRate r gain m =
    expoCurve r.expo (stretched r.deadband m) * gain * r.vstick / (32767 * 255) := if_neg (Nat.not_le_of_lt h)

theorem shapedRate_full (hdead : r.deadband < 32767) (hexpo : r.expo ≤ 256) :
    shapedRate r gain 32767 = gain * r.vstick / 255 := by
  rw [shapedRate_past hdead, stretched_full hdead, expoCurve_full hexpo, Nat.mul_assoc,
    Nat.mul_div_mul_left _ _ (by decide)]

theorem shapedRate_mono (h : m ≤ n) : shapedRate r gain m ≤ shapedRate r gain n := by
  by_cases hm : m ≤ r.deadband
  · rw [shapedRate_dead hm]
    exact Nat.zero_le _
  · have hcurve := expoCurve_mono r.expo (stretched_mono r.deadband h)
    rw [shapedRate_past (by omega), shapedRate_past (by omega)]
    gcongr

/-- The rate at full deflection bounds every other, and the gain takes it to vstick at the most. -/
theorem shapedRate_le (hdead : r.deadband < 32767) (hexpo : r.expo ≤ 256) (hgain : gain ≤ 255) (hm : m ≤ 32767) :
    shapedRate r gain m ≤ r.vstick :=
  calc shapedRate r gain m ≤ shapedRate r gain 32767 := shapedRate_mono hm
    _ = gain * r.vstick / 255 := shapedRate_full hdead hexpo
    _ ≤ 255 * r.vstick / 255 := by gcongr
    _ = r.vstick := Nat.mul_div_cancel_left _ (by decide)

theorem shapedRate_first (hdead : r.deadband ≤ 8191) (hexpo : 0 < r.expo) :
    shapedRate r gain (r.deadband + 1) = 0 := by
  rw [shapedRate_past (Nat.lt_succ_self _), stretched_first hdead, expoCurve_one hexpo, Nat.zero_mul, Nat.zero_mul,
    Nat.zero_div]

theorem shapedRate_off (h : gain = 0 ∨ r.vstick = 0) : shapedRate r gain m = 0 := by
  rcases Nat.lt_or_ge r.deadband m with hm | hm
  · rw [shapedRate_past hm]
    rcases h with h | h <;> simp [h]
  · exact shapedRate_dead hm

/-- Settles O25: the edges of the stretch, of the curve and of the rate. -/
theorem stickShapingEdges : Obligations.StickShapingEdges := by
  intro r gain hdead hexpo hgain
  have hdead' : r.deadband < 32767 := by omega
  exact ⟨shapedRate_full hdead' hexpo, fun m hm => shapedRate_le hdead' hexpo hgain hm,
    fun m n hmn _ => shapedRate_mono hmn, fun m hm => shapedRate_dead hm, fun he => shapedRate_first hdead he,
    fun h m => shapedRate_off h, fun d => rfl⟩

end Sys2Proof.Machine

/-! SUPPORT. The silent owner's lapse and the end of a contest (R86, R88, R89), and the store through an expiry with no
recording, where a download ages and lapses (R10). -/

namespace Sys2Proof.Machine

/-! The ageing of the stick record (R86, R88, R89). -/

section Ageing

variable {k : Stick} {o : Station}

theorem Stick.age_counts : k.age.holdAge = satAdd 255 k.holdAge 1 ∧ k.age.contest = k.contest - 1 ∧
    k.age.gain = k.gain ∧ k.age.ownerSequence = k.ownerSequence := by
  unfold Stick.age
  dsimp only
  split
  · exact ⟨rfl, rfl, rfl, rfl⟩
  · split <;> exact ⟨rfl, rfl, rfl, rfl⟩

/-- Short of age 100 an owner keeps the stick, and the phase follows the age (R88). -/
theorem Stick.age_owned (ho : k.owner = some o) (hage : satAdd 255 k.holdAge 1 ≠ 100) :
    k.age = { k with holdAge := satAdd 255 k.holdAge 1, phase := phaseOf (satAdd 255 k.holdAge 1),
                     contest := k.contest - 1 } := by
  simp only [Stick.age, ho, if_neg hage]

/-- At age 100 the owner lapses (R89). -/
theorem Stick.age_lapses (ho : k.owner = some o) (hage : satAdd 255 k.holdAge 1 = 100) :
    k.age = { k with owner := none, deflection := 0, holdAge := 100, phase := .zero, contest := k.contest - 1,
                     lapsed := true } := by
  simp only [Stick.age, ho, hage, if_true]

/-- An age that an expiry has raised is never 0, so the phase is HELD up to age 4 and ZERO from there (R88). -/
theorem phaseOf_satAdd (age : Nat) : phaseOf (satAdd 255 age 1) = if age + 1 ≤ 4 then .held else .zero := by
  unfold phaseOf satAdd
  rw [if_neg (by omega)]
  exact if_congr (by omega) rfl rfl

theorem satAdd_eq_100 (age : Nat) : satAdd 255 age 1 = 100 ↔ age = 99 := by
  unfold satAdd
  omega

end Ageing

variable {s : State}

/-! With no recording only a download's work moves the store and LOAD_LAPSE at an expiry (R10, R13, R15). -/

/-- Two states agree on the preset store and on LOAD_LAPSE. -/
structure State.LoadsKept (s t : State) : Prop where
  store : t.store = s.store
  loadLapse : t.link.counters.loadLapse = s.link.counters.loadLapse

theorem State.LoadsKept.trans {t u : State} (h : s.LoadsKept t) (h' : t.LoadsKept u) : s.LoadsKept u :=
  ⟨h'.store.trans h.store, h'.loadLapse.trans h.loadLapse⟩

theorem State.endRecording_none (h : s.store.recording = none) : s.endRecording = s := by
  simp [State.endRecording, h]

/-- A raised cause reaches the store only through the end of a recording (R132). -/
theorem State.raise_loadsKept (c : Causes) (h : s.store.recording = none) : s.LoadsKept (s.raise c) := by
  rcases State.raise_cases (s := s) c with hr | ⟨-, -, hr⟩ | ⟨-, d, -, hr⟩ <;> rw [hr]
  · exact ⟨rfl, rfl⟩
  · have hstore : (s.localFault c).store = s.endRecording.store := by
      rw [State.localFault_eq, State.setLink_store, State.setHalt_store, State.enterHalting_store]
    have hcount : (s.localFault c).link.counters = s.endRecording.link.counters := by
      rw [State.localFault_eq, State.setLink_link, State.enterHalting_link]
    rw [State.endRecording_none h] at hstore hcount
    exact ⟨hstore, congrArg Counters.loadLapse hcount⟩
  · exact ⟨rfl, rfl⟩

/-- The drive port lies apart from both. -/
theorem State.setPort_loadsKept (p : Port) : s.LoadsKept (s.setPort p) := ⟨rfl, rfl⟩

theorem State.missExchange_loadsKept (h : s.store.recording = none) : s.LoadsKept s.missExchange := by
  have hraised := State.raise_loadsKept
    (s := (s.setPort { s.port with lastExchange := .missed, missRun := satAdd 255 s.port.missRun 1 }).countDriveMiss)
    (causeIf (satAdd 255 s.port.missRun 1 = 3) causeDriveLost) h
  exact ⟨hraised.store, hraised.loadLapse⟩

theorem State.tryExchange_loadsKept : s.LoadsKept s.tryExchange := by
  rw [State.tryExchange_eq]
  exact State.setPort_loadsKept _

theorem State.handOver_loadsKept (position velocity : Int) (enable halting : Bool) (h : s.store.recording = none) :
    s.LoadsKept (s.handOver position velocity enable halting) := by
  have hwaits := State.setPort_loadsKept (s := s) (s.port.handed position velocity enable halting)
  cases hp : s.port.pendingRecord with
  | none =>
    rw [State.handOver_fresh _ _ _ _ hp]
    exact hwaits.trans State.tryExchange_loadsKept
  | some p =>
    rw [State.handOver_replaces _ _ _ _ (by rw [hp]; rfl)]
    exact (hwaits.trans (State.missExchange_loadsKept h)).trans State.tryExchange_loadsKept

theorem State.computeExpiry_loadsKept (sup : Supply) (h : s.store.recording = none) :
    s.LoadsKept (s.computeExpiry sup) := by
  unfold State.computeExpiry
  split
  · have hstore : (s.computeRun sup).store = s.store := by rw [State.computeRun_eq]; rfl
    have hlink : (s.computeRun sup).link = s.link := by rw [State.computeRun_eq]; rfl
    have hnone : (s.computeRun sup).recordExpiry = s.computeRun sup := State.recordExpiry_none (by rw [hstore]; exact h)
    refine ⟨?_, ?_⟩
    · rw [State.readSetpoint_store, hnone, hstore]
    · rw [State.readSetpoint_link, hnone, hlink]
  · unfold State.computeHalting
    dsimp only
    split <;> exact ⟨rfl, rfl⟩
  · exact ⟨rfl, rfl⟩
  · exact ⟨rfl, rfl⟩

theorem State.lostReport_loadsKept (due : Bool) : s.LoadsKept (s.lostReport due) := by
  unfold State.lostReport
  split <;> exact ⟨rfl, rfl⟩

theorem State.expiry_loadsKept (h : s.ageExpiry.store.recording = none) : s.ageExpiry.LoadsKept s.expiry := by
  have hcomputed : s.ageExpiry.LoadsKept s.computed := State.computeExpiry_loadsKept s.stickSupply h
  have hperiod : s.ageExpiry.LoadsKept (s.computed.lostReport s.reportDue).newPeriod :=
    (hcomputed.trans (State.lostReport_loadsKept s.reportDue)).trans (State.setPort_loadsKept _)
  exact hperiod.trans (State.handOver_loadsKept _ _ _ _ ((congrArg Store.recording hperiod.store).trans h))

/-! The download at an expiry (R10). -/

variable {d : Download}

theorem Store.discardDownload_open {st : Store} (hd : st.download = some d) :
    st.discardDownload = { st.free d.preset with download := none } := by
  unfold Store.discardDownload
  rw [hd]

theorem State.ageExpiry_waits (hd : s.store.download = some d) (h : d.lapse + 1 < 2000) :
    s.ageExpiry.store = { s.store with download := some { d with lapse := d.lapse + 1 } } := by
  rw [State.ageExpiry_store]
  simp [State.downloadExpiry, hd, Nat.not_le_of_lt h]

theorem State.ageExpiry_lapses (hd : s.store.download = some d) (h : 2000 ≤ d.lapse + 1) :
    s.ageExpiry.store = { s.store.free d.preset with download := none } ∧
    s.ageExpiry.link.counters.loadLapse = satAdd 65535 s.link.counters.loadLapse 1 := by
  have hage : s.ageExpiry =
      ((s.setStick s.stick.age).peersExpiry.setStore s.store.discardDownload).countLoadLapse := by
    have hdown : (s.setStick s.stick.age).peersExpiry.store.download = some d := hd
    rw [State.ageExpiry, State.downloadExpiry, hdown]
    exact if_pos h
  rw [hage, ← Store.discardDownload_open hd]
  exact ⟨rfl, rfl⟩

/-! The rows that name what an expiry brings (log 2). -/

theorem exec_ownerLapse (h : s.ownerLapses = true) : exec .ownerLapse s = .next s.expiry :=
  congrArg Host.Outcome.next (if_pos h)

theorem exec_contestExpiry (h : s.contestExpires = true) : exec .contestExpiry s = .next s.expiry :=
  congrArg Host.Outcome.next (if_pos h)

theorem exec_downloadLapse (h : s.downloadLapses = true) : exec .downloadLapse s = .next s.expiry :=
  congrArg Host.Outcome.next (if_pos h)

/-- Settles O29: the ageing of the stick record, and the store of an expiry that no recording shares. -/
theorem silentOwnersLapse : Obligations.SilentOwnersLapse := by
  refine ⟨fun s hrst hst => ?_, fun s d hmode hrst hst hd => ?_⟩
  · have htimer := State.timerRuns_outside hrst hst
    obtain ⟨hage, hcontest, hgain, hsequence⟩ := Stick.age_counts (k := s.stick)
    obtain ⟨-, -, hstick, -⟩ := State.expiry_frame (s := s)
    refine ⟨s.expiry, exec_controlPeriodExpiry htimer, ?_⟩
    rw [hstick]
    refine ⟨hage, hcontest, hgain, hsequence, fun o ho hne => ?_, fun o ho h99 => ?_, fun hone => ⟨?_, ?_⟩⟩
    · rw [Stick.age_owned ho ((satAdd_eq_100 _).not.mpr hne)]
      exact ⟨ho, rfl, rfl, phaseOf_satAdd _⟩
    · have h100 := (satAdd_eq_100 _).mpr h99
      rw [Stick.age_lapses ho h100]
      exact ⟨rfl, rfl, rfl, rfl, exec_ownerLapse (by simp [State.ownerLapses, htimer, ho, h100])⟩
    · rw [hcontest, hone]
    · exact exec_contestExpiry (by simp [State.contestExpires, htimer, hone])
  · have htimer := State.timerRuns_outside hrst hst
    have hrec : s.store.recording = none := (hmode.oneInProgress.1 (by rw [hd]; rfl)).1
    refine ⟨s.expiry, exec_controlPeriodExpiry htimer, fun hwait => ?_, fun hlapse => ?_⟩
    · have haged := State.ageExpiry_waits hd hwait
      exact (State.expiry_loadsKept (by rw [haged]; exact hrec)).store.trans haged
    · obtain ⟨haged, hcount⟩ := State.ageExpiry_lapses hd hlapse
      obtain ⟨hstore, hload⟩ := State.expiry_loadsKept (s := s) (by rw [haged]; exact hrec)
      obtain ⟨-, -, -, -, -, -, -, -, -, -, -, -, hreply⟩ := State.expiry_frame (s := s)
      exact ⟨exec_downloadLapse (by simp [State.downloadLapses, htimer, hd, hlapse]), hstore.trans haged,
        hload.trans hcount, hreply⟩

end Sys2Proof.Machine

/-! SUPPORT. A STICK frame: the selected channel, the sequence check, and what the owner, the sender and RELEASE decide
(R82 to R87, R94). -/

namespace Sys2Proof.Machine

/-- The selected channel is the first that names the own station (R82). -/
theorem selectChannel_eq_some_iff {own : Station} {channels : List Channel} {c : Channel} :
    selectChannel own channels = some c ↔ ∃ before later, channels = before ++ c :: later ∧
      c.target = stationByte own ∧ ∀ x ∈ before, x.target ≠ stationByte own := by
  rw [selectChannel, List.find?_eq_some_iff_append]
  constructor
  · rintro ⟨hc, before, later, hsplit, hbefore⟩
    exact ⟨before, later, hsplit, by simpa using hc, fun x hx => by simpa using hbefore x hx⟩
  · rintro ⟨before, later, hsplit, hc, hbefore⟩
    exact ⟨by simpa using hc, before, later, hsplit, fun x hx => by simpa using hbefore x hx⟩

variable {s t u : State} {sender : Station} {sequence : Byte} {c : Channel} {channels : List Channel}

/-- A counted good arrival moves RX_GOOD and no other counter. -/
theorem State.heard_counters : s.heard.link.counters =
    { s.link.counters with rxGood := satAdd 65535 s.link.counters.rxGood 1 } := by
  obtain ⟨-, -, -, -, -, -, hcounters⟩ := Link.windowStep_frame
    (s.mapCounters fun c => { c with rxGood := satAdd 65535 c.rxGood 1 }).link false s.frozen s.record.windowSize
    s.record.badThreshold
  exact hcounters

/-! What a STICK frame can move: the stick record, NEXT, STICK_GAP and STICK_CONTEST. -/

/-- The state with the items that stick intake writes taken from t. -/
def State.withStick (s t : State) : State :=
  ((s.setStick t.stick).setNext t.next).mapCounters fun c =>
    { c with stickGap := t.link.counters.stickGap, stickContest := t.link.counters.stickContest }

/-- What follows a step of stick intake and keeps to its items keeps to them over both. -/
theorem State.withStick_trans (hst : t = s.withStick t) (htu : u = t.withStick u) : u = s.withStick u := by
  have hstep : (s.withStick t).withStick u = s.withStick u := rfl
  rw [← hst, ← htu] at hstep
  exact hstep

/-! The sequence check (R87). -/

theorem State.checkSequence_owner (h : s.stick.owner = some sender) : s.checkSequence sender sequence =
    (s.countGap (sequenceGap sequence s.stick.ownerSequence)).setStick { s.stick with ownerSequence := sequence } :=
  if_pos h

theorem State.checkSequence_other (h : s.stick.owner ≠ some sender) : s.checkSequence sender sequence = s := if_neg h

theorem State.checkSequence_stick : (s.checkSequence sender sequence).stick =
    if s.stick.owner = some sender then { s.stick with ownerSequence := sequence } else s.stick := by
  unfold State.checkSequence
  split <;> rfl

@[simp] theorem State.checkSequence_owner_kept : (s.checkSequence sender sequence).stick.owner = s.stick.owner := by
  rw [State.checkSequence_stick]
  split <;> rfl

theorem State.checkSequence_gap : (s.checkSequence sender sequence).link.counters.stickGap =
    if s.stick.owner = some sender then
      satAdd 65535 s.link.counters.stickGap (sequenceGap sequence s.stick.ownerSequence)
    else s.link.counters.stickGap := by
  unfold State.checkSequence
  split <;> rfl

theorem State.checkSequence_keeps :
    (s.checkSequence sender sequence).next = s.next ∧ (s.checkSequence sender sequence).halt = s.halt ∧
    (s.checkSequence sender sequence).own = s.own ∧
    (s.checkSequence sender sequence).link.counters.stickContest = s.link.counters.stickContest := by
  unfold State.checkSequence
  split <;> exact ⟨rfl, rfl, rfl, rfl⟩

theorem State.checkSequence_withStick :
    s.checkSequence sender sequence = s.withStick (s.checkSequence sender sequence) := by
  unfold State.checkSequence
  split <;> rfl

/-! The abandoning of a seek (R34, R94). -/

/-- An accepted deflection d abandons the seek that NEXT stands in. -/
def State.abandonsAt (s : State) (d : Int) : Prop :=
  s.halt.station = .run ∧ s.record.takeThreshold < d.natAbs ∧ (s.next.state = .seeking ∨ s.next.state = .ready)

theorem State.abandonSeek_eq : s.abandonSeek = s.setNext s.abandonSeek.next := by
  unfold State.abandonSeek
  split <;> rfl

@[simp] theorem State.abandonSeek_stick : s.abandonSeek.stick = s.stick := by rw [State.abandonSeek_eq]; rfl

theorem State.abandonSeek_abandons (h : s.abandonsAt s.stick.deflection) :
    s.abandonSeek.next = { s.next with state := .loaded } := by
  obtain ⟨hrun, hpast, hseek⟩ := h
  rw [State.abandonSeek, if_pos ⟨hrun, hpast⟩, State.setNext_next]
  exact if_pos hseek

theorem State.abandonSeek_keeps (h : ¬ s.abandonsAt s.stick.deflection) : s.abandonSeek.next = s.next := by
  unfold State.abandonSeek
  split
  · rename_i hpast
    exact if_neg fun hseek => h ⟨hpast.1, hpast.2, hseek⟩
  · rfl

/-- What the stick record and NEXT hold once a deflection is accepted (R34, R84). -/
theorem State.accepted_next (k : Stick) :
    (s.setStick k).abandonSeek.stick = k ∧
    (s.abandonsAt k.deflection → (s.setStick k).abandonSeek.next = { s.next with state := .loaded }) ∧
    (¬ s.abandonsAt k.deflection → (s.setStick k).abandonSeek.next = s.next) :=
  ⟨State.abandonSeek_stick, State.abandonSeek_abandons (s := s.setStick k), State.abandonSeek_keeps (s := s.setStick k)⟩

/-! The decision on the selected channel (R83 to R86). -/

theorem State.decideChannel_claim (ho : s.stick.owner = none) (hc : channelReleased c = false) :
    s.decideChannel sender sequence c = s.claim sender sequence c := by
  simp [State.decideChannel, ho, hc]

theorem State.decideChannel_idleRelease (ho : s.stick.owner = none) (hc : channelReleased c = true) :
    s.decideChannel sender sequence c = s := by
  simp [State.decideChannel, ho, hc]

theorem State.decideChannel_accept (ho : s.stick.owner = some sender) (hc : channelReleased c = false) :
    s.decideChannel sender sequence c = (s.setStick (s.stick.accept c)).abandonSeek := by
  simp [State.decideChannel, ho, hc]

theorem State.decideChannel_release (ho : s.stick.owner = some sender) (hc : channelReleased c = true) :
    s.decideChannel sender sequence c = s.releaseStick := by
  simp [State.decideChannel, ho, hc]

theorem State.decideChannel_contest {o : Station} (ho : s.stick.owner = some o) (hne : o ≠ sender) :
    s.decideChannel sender sequence c = s.contestStick := by
  simp [State.decideChannel, ho, hne]

theorem State.releaseStick_items :
    s.releaseStick.stick = { s.stick with owner := none, deflection := 0, phase := .zero, holdAge := 255 } ∧
    s.releaseStick.next = s.next := ⟨rfl, rfl⟩

theorem State.contestStick_items : s.contestStick.stick = { s.stick with contest := 100 } ∧ s.contestStick.next = s.next ∧
    s.contestStick.link.counters.stickContest = satAdd 65535 s.link.counters.stickContest 1 := ⟨rfl, rfl, rfl⟩

/-- The five outcomes of a selected channel. -/
theorem State.decideChannel_cases :
    (s.stick.owner = none ∨ s.stick.owner = some sender) ∧
      (s.decideChannel sender sequence c = s.claim sender sequence c ∨ s.decideChannel sender sequence c = s ∨
        s.decideChannel sender sequence c = (s.setStick (s.stick.accept c)).abandonSeek ∨
        s.decideChannel sender sequence c = s.releaseStick) ∨
    (∃ o, s.stick.owner = some o ∧ o ≠ sender) ∧ s.decideChannel sender sequence c = s.contestStick := by
  cases ho : s.stick.owner with
  | none =>
    cases hc : channelReleased c with
    | false => exact .inl ⟨.inl rfl, .inl (State.decideChannel_claim ho hc)⟩
    | true => exact .inl ⟨.inl rfl, .inr (.inl (State.decideChannel_idleRelease ho hc))⟩
  | some o =>
    by_cases hne : o = sender
    · subst hne
      cases hc : channelReleased c with
      | false => exact .inl ⟨.inr rfl, .inr (.inr (.inl (State.decideChannel_accept ho hc)))⟩
      | true => exact .inl ⟨.inr rfl, .inr (.inr (.inr (State.decideChannel_release ho hc)))⟩
    · exact .inr ⟨⟨o, rfl, hne⟩, State.decideChannel_contest ho hne⟩

/-- Only a contest counts, and it counts STICK_CONTEST alone (R86). -/
theorem State.decideChannel_counters : (s.decideChannel sender sequence c).link.counters =
    if s.stick.owner = none ∨ s.stick.owner = some sender then s.link.counters
    else { s.link.counters with stickContest := satAdd 65535 s.link.counters.stickContest 1 } := by
  rcases State.decideChannel_cases (s := s) (sender := sender) (sequence := sequence) (c := c) with
    ⟨ho, h | h | h | h⟩ | ⟨⟨o, ho, hne⟩, h⟩ <;> rw [h]
  · rw [if_pos ho, State.claim, State.abandonSeek_eq]; rfl
  · rw [if_pos ho]
  · rw [if_pos ho, State.abandonSeek_eq]; rfl
  · rw [if_pos ho]; rfl
  · rw [if_neg (by simp [ho, hne])]; rfl

theorem State.decideChannel_withStick :
    s.decideChannel sender sequence c = s.withStick (s.decideChannel sender sequence c) := by
  rcases State.decideChannel_cases (s := s) (sender := sender) (sequence := sequence) (c := c) with
    ⟨-, h | h | h | h⟩ | ⟨-, h⟩ <;> rw [h]
  · rw [State.claim, State.abandonSeek_eq]; rfl
  · rfl
  · rw [State.abandonSeek_eq]; rfl
  · rfl
  · rfl

/-! The frame whole (R82). -/

theorem State.actStick_ignored (h : s.halt.station = .config ∨ channels.length < 1 ∨ 4 < channels.length) :
    s.actStick sender sequence channels = s := if_pos h

/-- A frame past its three tests is checked, and decided where it has a selected channel. -/
theorem State.actStick_tested (hst : s.halt.station ≠ .config) (h1 : 1 ≤ channels.length) (h4 : channels.length ≤ 4) :
    (selectChannel s.own channels = none →
      s.actStick sender sequence channels = s.checkSequence sender sequence) ∧
    (∀ c, selectChannel s.own channels = some c → s.actStick sender sequence channels =
      (s.checkSequence sender sequence).decideChannel sender sequence c) := by
  obtain ⟨-, -, hown, -⟩ := State.checkSequence_keeps (s := s) (sender := sender) (sequence := sequence)
  have htests : ¬ (s.halt.station = .config ∨ channels.length < 1 ∨ 4 < channels.length) :=
    not_or.mpr ⟨hst, by omega⟩
  simp only [State.actStick, if_neg htests, hown]
  exact ⟨fun hsel => by rw [hsel], fun c hsel => by rw [hsel]⟩

theorem State.actStick_cases :
    s.actStick sender sequence channels = s ∨
    s.actStick sender sequence channels = s.checkSequence sender sequence ∨
    ∃ c, selectChannel s.own channels = some c ∧ s.actStick sender sequence channels =
      (s.checkSequence sender sequence).decideChannel sender sequence c := by
  by_cases h : s.halt.station = .config ∨ channels.length < 1 ∨ 4 < channels.length
  · exact .inl (State.actStick_ignored h)
  · obtain ⟨hst, hlen⟩ := not_or.mp h
    obtain ⟨hnone, hsome⟩ := State.actStick_tested (s := s) (sender := sender) (sequence := sequence)
      (channels := channels) hst (by omega) (by omega)
    cases hsel : selectChannel s.own channels with
    | none => exact .inr (.inl (hnone hsel))
    | some c => exact .inr (.inr ⟨c, rfl, hsome c hsel⟩)

/-- A STICK frame moves nothing but the items of stick intake and NEXT. -/
theorem State.actStick_withStick :
    s.actStick sender sequence channels = s.withStick (s.actStick sender sequence channels) := by
  rcases State.actStick_cases (s := s) (sender := sender) (sequence := sequence) (channels := channels) with
    h | h | ⟨c, -, h⟩ <;> rw [h]
  · rfl
  · exact State.checkSequence_withStick
  · exact State.withStick_trans State.checkSequence_withStick State.decideChannel_withStick

theorem State.actStick_gap (hst : s.halt.station ≠ .config) (h1 : 1 ≤ channels.length) (h4 : channels.length ≤ 4) :
    (s.actStick sender sequence channels).link.counters.stickGap =
      if s.stick.owner = some sender then
        satAdd 65535 s.link.counters.stickGap (sequenceGap sequence s.stick.ownerSequence)
      else s.link.counters.stickGap := by
  rw [← State.checkSequence_gap]
  obtain ⟨hnone, hsome⟩ := State.actStick_tested (s := s) (sender := sender) (sequence := sequence) hst h1 h4
  cases hsel : selectChannel s.own channels with
  | none => rw [hnone hsel]
  | some c =>
    rw [hsome c hsel, State.decideChannel_counters]
    split <;> rfl

/-- A frame that contests nobody leaves STICK_CONTEST (R86). -/
theorem State.actStick_noContest (h : s.stick.owner = none ∨ s.stick.owner = some sender ∨
      selectChannel s.own channels = none) :
    (s.actStick sender sequence channels).link.counters.stickContest = s.link.counters.stickContest := by
  obtain ⟨-, -, -, hcontest⟩ := State.checkSequence_keeps (s := s) (sender := sender) (sequence := sequence)
  rcases State.actStick_cases (s := s) (sender := sender) (sequence := sequence) (channels := channels) with
    hact | hact | ⟨c, hsel, hact⟩ <;> rw [hact]
  · exact hcontest
  · have howner : (s.checkSequence sender sequence).stick.owner = none ∨
        (s.checkSequence sender sequence).stick.owner = some sender := by
      rw [State.checkSequence_owner_kept]
      exact h.imp_right fun h' => h'.resolve_right (by rw [hsel]; nofun)
    rw [State.decideChannel_counters, if_pos howner, hcontest]

theorem exec_stick (hs : s.hears sender) :
    exec (.stick sender sequence channels) s = .next (s.heard.actStick sender sequence channels) :=
  congrArg Host.Outcome.next (State.arrive_heard hs)

/-- Settles O32: the frame's three tests, then the owner, the sender and RELEASE on the counted and checked state. -/
theorem stickFrameIsTaken : Obligations.StickFrameIsTaken := by
  refine ⟨fun own channels c => selectChannel_eq_some_iff, fun sender sequence channels s hs =>
    ⟨s.heard.actStick sender sequence channels, exec_stick hs, fun h => State.actStick_ignored (by
      rwa [← Nat.lt_one_iff] at h), fun hst h1 h4 => ⟨fun hnone => ?_, fun ho => ?_, fun ho => ?_, fun c hsel => ?_⟩,
      fun h => ?_, State.actStick_withStick⟩⟩
  · rw [(State.actStick_tested (s := s.heard) hst h1 h4).1 hnone]
    exact ⟨State.checkSequence_keeps.1, State.checkSequence_stick⟩
  · rw [State.actStick_gap (s := s.heard) hst h1 h4, State.heard_counters]
    exact if_pos ho
  · rw [State.actStick_gap (s := s.heard) hst h1 h4, State.heard_counters]
    exact if_neg ho
  · rw [(State.actStick_tested (s := s.heard) hst h1 h4).2 c hsel]
    refine ⟨fun ho hc => ?_, fun ho hc => ?_, fun ho hc => ?_, fun ho hc => ?_, fun o ho hne => ?_⟩
    · rw [State.checkSequence_other (by simp [ho]), State.decideChannel_claim (s := s.heard) ho hc]
      exact State.accepted_next (s := s.heard) _
    · rw [State.checkSequence_other (by simp [ho]), State.decideChannel_idleRelease (s := s.heard) ho hc]
      exact ⟨rfl, rfl⟩
    · have howner : (s.heard.checkSequence sender sequence).stick.owner = some sender :=
        State.checkSequence_owner_kept.trans ho
      rw [State.decideChannel_accept howner hc, State.checkSequence_owner (s := s.heard) ho, ← ho]
      exact State.accepted_next _
    · have howner : (s.heard.checkSequence sender sequence).stick.owner = some sender :=
        State.checkSequence_owner_kept.trans ho
      obtain ⟨hstick, hnext⟩ := State.releaseStick_items (s := s.heard.checkSequence sender sequence)
      rw [State.checkSequence_stick, if_pos (by exact ho)] at hstick
      rw [State.decideChannel_release howner hc]
      exact ⟨hstick, hnext.trans State.checkSequence_keeps.1⟩
    · obtain ⟨hstick, hnext, hcount⟩ := State.contestStick_items (s := s.heard)
      rw [State.heard_counters] at hcount
      rw [State.checkSequence_other (by simp [ho, hne]), State.decideChannel_contest (s := s.heard) ho hne]
      exact ⟨hstick, hnext, hcount⟩
  · rw [State.actStick_noContest (s := s.heard) h, State.heard_counters]

end Sys2Proof.Machine

/-! SUPPORT. The reset values of the tables, and what the reset events leave in each block (R24, R81, R98, R111, R155, R166,
R185). -/

namespace Sys2Proof.Machine

theorem Store.reset_entry (p : Preset) : Store.reset.entry p = DirEntry.empty := Vector.getElem_replicate p.isLt

theorem Peers.reset_record (n : Station) : Peers.reset.records[n] = PeerRecord.absent := Vector.getElem_replicate n.isLt

theorem Mark.reset_line (k : Fin 4) : Mark.reset.lines.at k = MarkLine.reset := by
  fin_cases k <;> rfl

/-- Settles O11: release and power-on leave the same reset blocks, and differ in the RSTN pin alone. -/
theorem resetEventsActOnEveryBlock : Obligations.ResetEventsActOnEveryBlock := by
  refine ⟨fun n s => ⟨s.resetBlocks n { s.pins with rstn := true }, s.resetBlocks n s.pins, rfl, rfl, rfl, rfl,
    fun w hw => ?_⟩, fun s => ⟨_, rfl, rfl, rfl, rfl, rfl, rfl, rfl, rfl, rfl, fun hc => if_pos hc, fun hc => ?_, rfl⟩⟩
  · obtain ⟨pins, rfl⟩ : ∃ pins, w = s.resetBlocks n pins := hw.elim (fun h => ⟨_, h⟩) (fun h => ⟨_, h⟩)
    exact ⟨Store.reset_entry, fun i => rfl, rfl, rfl, rfl, rfl, rfl, rfl, rfl, rfl, Peers.reset_record, rfl, rfl,
      Mark.reset_line, rfl, rfl, rfl, rfl, rfl, rfl, rfl, rfl, rfl, rfl, rfl, rfl, rfl, rfl, rfl, rfl, rfl, rfl, rfl, rfl,
      rfl, rfl, rfl, rfl, rfl⟩
  · exact if_neg (by simp [hc])

end Sys2Proof.Machine

/-! SUPPORT. The number test of every good arrival (R105), and the coupling value that an expiry forms (R106 to R108). -/

namespace Sys2Proof.Machine

variable {s : State}

/-! The number test (R105). -/

/-- A frame or request from the own station number arrives like any other, a RESTART not excepted (R105, log 28). -/
theorem exec_fromOwn {c : Instr} (hc : c.sender = some s.own) : ∃ act, exec c s = .next (s.arrive s.own act) := by
  cases c
  case halt | resume | stick | load | seek | go | stop | hold | release | loopEnd | recStart | recStop | state |
      serviceReply | unknownKind | ident | startRecordWriteSection1 | startRecordWriteSection2 | statusRead |
      statusReadPeer | countersRead | presetOpen | keyframeWrite | presetClose | presetErase | presetEdit |
      directoryRead | keyframeRead | poolCompact | triggerArm | triggerDisarm | triggerRead | unknownRequestKind =>
    rw [← Option.some.inj hc]
    exact ⟨_, rfl⟩
  case restart header args straps =>
    have hown : header.sender = s.own := Option.some.inj hc
    have hdeaf : s.deafToRestart header = s.deaf := if_neg fun h => h.2 hown
    refine ⟨State.takeRequest header 0x03 (State.withArgs args fun _ => restartAnswer straps), ?_⟩
    change execRestart header args straps s = _
    rw [execRestart, hdeaf, hown, State.arrive]
  all_goals exact nomatch hc

/-- NUMBER_CLASH is the one cause that CONFIG latches too (R128). -/
theorem State.raise_numberClash_outside (h : s.halt.station ≠ .run) :
    s.raise causeNumberClash = s.latch causeNumberClash := by
  cases hst : s.halt.station with
  | run => exact absurd hst h
  | halting => exact State.raise_halting (.inl hst) (by decide)
  | halted => exact State.raise_halting (.inr hst) (by decide)
  | config => rw [State.raise_config hst (by decide), BitVec.and_self]

/-- Settles O14: the number test comes before every kind's own act, and raises NUMBER_CLASH. -/
theorem ownNumberIsAClash : Obligations.OwnNumberIsAClash := by
  intro c s hc hrst hfree
  obtain ⟨act, hexec⟩ := exec_fromOwn hc
  have hdeaf : s.deaf = false := by simp [State.deaf, hrst, hfree]
  rw [State.arrive_clash hdeaf] at hexec
  exact ⟨_, hexec, fun hrun => State.raise_run (s := s.heard) hrun (by decide),
    fun h => State.raise_numberClash_outside (s := s.heard) h⟩

/-! The coupling value (R106, R107). -/

theorem PeerRecord.usable_iff (r : PeerRecord) (period : Nat) : r.usable period = true ↔
    r.present = true ∧ r.age ≤ 8 ∧ r.report.state ≠ .config ∧ r.mismatch = false ∧ r.report.controlPeriod = period := by
  simp [PeerRecord.usable, PeerRecord.fresh, and_assoc]

/-- At Lmax the clamp of the arm length does nothing. -/
theorem couplingRate_lmax (r : StartRecord) : couplingRate r r.lmax = r.k / (r.r0 + r.lmax) := by
  rw [couplingRate, clamp_of_within (Int.natCast_nonneg _) le_rfl, Int.toNat_natCast]

section Coupling

variable (p : Peers)

theorem State.coupling_none (h : s.record.couplingSource = none) : (s.setPeers p).coupling = none := by
  rw [State.coupling, State.setPeers_record, h]

theorem State.coupling_usable {n : Station} (h : s.record.couplingSource = some n)
    (hu : p.records[n].usable s.record.controlPeriod = true) :
    (s.setPeers p).coupling =
      some { value := couplingRate s.record p.records[n].report.measured, blind := false } := by
  simp only [State.coupling, State.setPeers_record, State.setPeers_peers, h, hu, if_true]

theorem State.coupling_blind {n : Station} (h : s.record.couplingSource = some n)
    (hu : ¬ p.records[n].usable s.record.controlPeriod = true) :
    (s.setPeers p).coupling = some { value := s.record.k / (s.record.r0 + s.record.lmax), blind := true } := by
  simp only [State.coupling, State.setPeers_record, State.setPeers_peers, h, hu, Bool.false_eq_true, if_false,
    couplingRate_lmax]

end Coupling

/-- The coupling value of an expiry is formed from the records as that expiry has aged them (R101, R108). -/
theorem State.expiry_peers_eq :
    s.expiry.peers = { s.peers.older with coupling := (s.setPeers s.peers.older).coupling } :=
  State.expiry_frame.2.2.2.1

/-- Settles O30: the ageing of the table, then the coupling value by the source's aged record. -/
theorem peerTableAtAnExpiry : Obligations.PeerTableAtAnExpiry := by
  intro s hrst hst
  refine ⟨s.expiry, exec_controlPeriodExpiry (State.timerRuns_outside hrst hst), ?_⟩
  have haged := Peers.older_record s.peers
  rw [State.expiry_peers_eq]
  generalize s.peers.older = p at haged ⊢
  refine ⟨haged, State.coupling_none p, fun n hn => ⟨fun husable => ?_, fun hblind => ?_⟩⟩
  · rw [← PeerRecord.usable_iff] at husable
    exact State.coupling_usable p hn husable
  · rw [← PeerRecord.usable_iff] at hblind
    exact State.coupling_blind p hn hblind

end Sys2Proof.Machine

/-! SUPPORT. A STATE report as it is carried: which raw values are in range, and what each field then holds (R99, R187). -/

namespace Sys2Proof.Machine

/-! A code that is read is the code carried (R187). -/

theorem axisKindCode_of_read : ∀ b, ∀ k ∈ reportedKindOf b, axisKindCode k = b := by decide
theorem stationStateCode_of_read : ∀ b, ∀ v ∈ stationStateOf b, stationStateCode v = b := by decide
theorem cueStateCode_of_read : ∀ b, ∀ v ∈ cueStateOf b, cueStateCode v = b := by decide
theorem nextStateCode_of_read : ∀ b, ∀ v ∈ nextStateOf b, nextStateCode v = b := by decide

theorem stationField_of_read (b : Byte) (o : Option Station) (h : o ∈ stationFieldOf b) : stationField o = b := by
  unfold stationFieldOf at h
  split at h
  · rename_i hnone
    cases h
    exact hnone.symm
  · rcases station_cases b with ⟨-, hread⟩ | ⟨n, hb, hread⟩ <;> rw [hread] at h <;> cases h
    exact hb.symm

/-! The bytes that name nothing (R187). -/

theorem reportedKindOf_eq_none : ∀ b, reportedKindOf b = none ↔ 7 < b.toNat ∧ b ≠ 255 := by decide
theorem stationStateOf_eq_none : ∀ b, stationStateOf b = none ↔ 3 < b.toNat := by decide
theorem cueStateOf_eq_none : ∀ b, cueStateOf b = none ↔ 2 < b.toNat := by decide
theorem nextStateOf_eq_none : ∀ b, nextStateOf b = none ↔ 3 < b.toNat := by decide
theorem stationFieldOf_eq_none : ∀ b, stationFieldOf b = none ↔ 15 < b.toNat ∧ b ≠ 255 := by decide

/-! The report (R99). -/

/-- The two numeric ranges of a report: the control period, 0 or 500 to 4000, and the ability (R99). -/
def reportNumbersInRange (raw : RawReport) : Prop :=
  (raw.controlPeriod = 0 ∨ 500 ≤ raw.controlPeriod.toNat ∧ raw.controlPeriod.toNat ≤ 4000) ∧ raw.ability.toNat ≤ 65536

theorem not_reportNumbersInRange_iff (raw : RawReport) : ¬ reportNumbersInRange raw ↔
    raw.controlPeriod ≠ 0 ∧ (raw.controlPeriod.toNat < 500 ∨ 4000 < raw.controlPeriod.toNat) ∨
      65536 < raw.ability.toNat := by
  rw [reportNumbersInRange, Decidable.not_and_iff_or_not, not_or, not_and_or, not_le, not_le, not_le]

/-- A report is read exactly where its five codes name something and its two numbers are in range. -/
theorem reportOf_eq_some_iff (raw : RawReport) (r : Report) : reportOf raw = some r ↔
    reportedKindOf raw.axisKind = some r.axisKind ∧ stationStateOf raw.state = some r.state ∧
    cueStateOf raw.cueState = some r.cueState ∧ nextStateOf raw.nextState = some r.nextState ∧
    stationFieldOf raw.stickOwner = some r.stickOwner ∧ reportNumbersInRange raw ∧
    r = { r with
      epoch := raw.epoch, causes := raw.causes, measured := raw.measured.toInt, velocity := raw.velocity.toInt,
      flags := raw.flags &&& namedFlags, controlPeriod := raw.controlPeriod.toNat, cueId := raw.cueId,
      cueTime := raw.cueTime.toNat, ability := raw.ability.toNat, nextId := raw.nextId } := by
  constructor
  · intro h
    unfold reportOf at h
    split at h
    · rename_i kind st cue nx owner hkind hst hcue hnx howner
      split at h
      · rename_i hrange
        cases h
        exact ⟨hkind, hst, hcue, hnx, howner, hrange, rfl⟩
      · cases h
    · cases h
  · rintro ⟨hkind, hst, hcue, hnx, howner, hrange, hr⟩
    rw [hr]
    unfold reportOf
    rw [hkind, hst, hcue, hnx, howner]
    exact if_pos hrange

/-- A report is discarded exactly where a code names nothing or a number is out of range. -/
theorem reportOf_eq_none_iff (raw : RawReport) : reportOf raw = none ↔
    reportedKindOf raw.axisKind = none ∨ stationStateOf raw.state = none ∨ cueStateOf raw.cueState = none ∨
    nextStateOf raw.nextState = none ∨ stationFieldOf raw.stickOwner = none ∨ ¬ reportNumbersInRange raw := by
  unfold reportOf reportNumbersInRange
  split
  · rename_i hkind hst hcue hnx howner
    simp [hkind, hst, hcue, hnx, howner]
  · rename_i hnone
    refine iff_of_true rfl ?_
    by_contra hsome
    simp only [not_or, ← ne_eq, Option.ne_none_iff_exists'] at hsome
    obtain ⟨⟨kind, hkind⟩, ⟨st, hst⟩, ⟨cue, hcue⟩, ⟨nx, hnx⟩, ⟨owner, howner⟩, -⟩ := hsome
    exact hnone kind st cue nx owner hkind hst hcue hnx howner

theorem namedFlags_getLsbD (i : Nat) : namedFlags.getLsbD i = decide (i < 11) := by
  by_cases h : i < 16
  · revert i; decide
  · rw [BitVec.getLsbD_of_ge _ _ (by omega), decide_eq_false (by omega)]

/-- The named flag bits are kept, the others dropped (R187, log 24). -/
theorem namedFlags_kept (flags : Half) :
    (∀ i < 11, (flags &&& namedFlags).getLsbD i = flags.getLsbD i) ∧
    ∀ i, 11 ≤ i → (flags &&& namedFlags).getLsbD i = false := by
  refine ⟨fun i hi => ?_, fun i hi => ?_⟩ <;> rw [BitVec.getLsbD_and, namedFlags_getLsbD]
  · rw [decide_eq_true hi, Bool.and_true]
  · rw [decide_eq_false (by omega), Bool.and_false]

end Sys2Proof.Machine

/-! SUPPORT. What a STATE report in range moves: the record it writes (R99, R103), the seen set (R49), the halt check (R131,
R136) and the trigger's evaluation, in either order (R100, R115). -/

namespace Sys2Proof.Machine

variable {s : State} (n : Station) (r : Report)

/-! The record written (R99, R103). -/

theorem mismatches_eq (record : Option StartRecord) (period : Nat) : mismatches record period =
    (record.isSome && period ≠ 0 && period ≠ (record.getD StartRecord.cleared).controlPeriod) := by
  cases record with
  | none => rfl
  | some own => simp [mismatches]

theorem State.writePeer_sender : (s.writePeer n r).peers.records[n] =
    { present := true, report := r, age := 0,
      mismatch := s.start.record.isSome && r.controlPeriod ≠ 0 && r.controlPeriod ≠ s.record.controlPeriod } := by
  change (s.peers.records.set n.val (writtenRecord s.start.record r) n.isLt)[n.val] = _
  rw [Vector.getElem_set_self, writtenRecord, mismatches_eq]
  rfl

theorem State.writePeer_others {m : Station} (h : m ≠ n) :
    (s.writePeer n r).peers.records[m] = s.peers.records[m] :=
  Vector.getElem_set_ne n.isLt m.isLt fun hval => h (Fin.ext hval.symm)

/-! The seen set (R49). -/

/-- The RUNNING slot once the sender has joined the seen set, where it does. -/
def RunningSlot.seeing (run : RunningSlot) : RunningSlot :=
  if run.state ≠ .idle ∧ maskHas run.participants n = true ∧ r.cueId = run.cueId ∧ r.cueState ≠ .idle then
    { run with seen := maskAdd run.seen n }
  else run

theorem State.joinSeen_eq : s.joinSeen n r = s.setRunning (s.running.seeing n r) := by
  unfold State.joinSeen RunningSlot.seeing
  split <;> rfl

/-! The halt check (R131, R136). -/

/-- The report halts a station in RUN: it says HALTING or HALTED, in the station's own epoch (R131). -/
def State.haltedBy (s : State) : Prop :=
  s.halt.station = .run ∧ (r.state = .halting ∨ r.state = .halted) ∧ r.epoch = s.halt.epoch

/-- Halt control once it has taken a report that does not halt the station. -/
def Halt.reported (h : Halt) : Halt :=
  if h.station = .config then if r.state = .config then h else { h with epoch := r.epoch }
  else if (r.state = .halting ∨ r.state = .halted) ∧ r.epoch = h.epoch then { h with causes := h.causes ||| causePeer }
  else h

@[simp] theorem Halt.reported_station (h : Halt) : (h.reported r).station = h.station := by
  unfold Halt.reported
  split
  · split <;> rfl
  · split <;> rfl

theorem Halt.reported_config {h : Halt} (hst : h.station = .config) :
    h.reported r = if r.state = .config then h else { h with epoch := r.epoch } := if_pos hst

theorem Halt.reported_latched {h : Halt} (hst : h.station = .halting ∨ h.station = .halted)
    (hr : (r.state = .halting ∨ r.state = .halted) ∧ r.epoch = h.epoch) :
    h.reported r = { h with causes := h.causes ||| causePeer } := by
  have hconfig : h.station ≠ .config := by rcases hst with hst | hst <;> rw [hst] <;> nofun
  exact (if_neg hconfig).trans (if_pos hr)

theorem Halt.reported_kept {h : Halt} (hst : h.station ≠ .config)
    (hr : ¬ ((r.state = .halting ∨ r.state = .halted) ∧ r.epoch = h.epoch)) : h.reported r = h :=
  (if_neg hst).trans (if_neg hr)

theorem State.haltReport_quiet (h : ¬ s.haltedBy r) : s.haltReport n r = s.setHalt (s.halt.reported r) := by
  unfold State.haltReport
  split
  · rename_i hst
    rw [Halt.reported_config r hst]
    split <;> rfl
  · rename_i hst
    split
    · rename_i hr
      have hhalts : s.halt.station = .halting ∨ s.halt.station = .halted := by
        cases hs : s.halt.station with
        | run => exact absurd ⟨hs, hr⟩ h
        | config => exact absurd hs hst
        | halting => exact .inl rfl
        | halted => exact .inr rfl
      rw [State.haltFromOutside_halting hhalts, Halt.reported_latched r hhalts hr, State.latch]
    · rename_i hr
      rw [Halt.reported_kept r hst hr, State.setHalt_self]

theorem State.haltReport_halts (h : s.haltedBy r) : s.haltReport n r = s.enterHalting.setHalt
    { station := .halting, causes := s.halt.causes ||| causePeer, epoch := s.halt.epoch,
      record := some { origin := n, entryCauses := causePeer, originCauses := r.causes, entryEpoch := s.halt.epoch } } := by
  obtain ⟨hrun, hr⟩ := h
  rw [State.haltReport, if_neg (by simp [hrun]), if_pos hr, State.haltFromOutside_run_eq hrun]

/-- The end of a recording drops no frame of the outbound list. -/
theorem State.endRecording_outDrop : s.endRecording.link.counters.outDrop = s.link.counters.outDrop := by
  unfold State.endRecording
  split
  · rfl
  · split <;> (unfold State.closeRecording; split <;> rfl)

/-- What the halt check leaves, whether or not it halts the station. -/
theorem State.haltReport_frame :
    (s.haltReport n r).peers = s.peers ∧ (s.haltReport n r).stick = s.stick ∧ (s.haltReport n r).mark = s.mark ∧
    (s.haltReport n r).port = s.port ∧ (s.haltReport n r).start = s.start ∧
    (s.haltReport n r).link.haltSlot = s.link.haltSlot ∧ (s.haltReport n r).link.cueList = s.link.cueList ∧
    (s.haltReport n r).link.counters.outDrop = s.link.counters.outDrop := by
  by_cases h : s.haltedBy r
  · obtain ⟨hslot, hlist, -⟩ := State.endRecording_list (s := s)
    simp [State.haltReport_halts n r h, hslot, hlist, State.endRecording_outDrop]
  · simp [State.haltReport_quiet n r h]

/-! The trigger's evaluation (R100, R115). -/

theorem State.watchReport_watched (h : s.trigger.watched = n) :
    s.watchReport n r = s.evaluateTrigger r.state r.measured := if_pos h

theorem State.watchReport_other (h : s.trigger.watched ≠ n) : s.watchReport n r = s := if_neg h

theorem State.watchReport_outside (h : s.halt.station ≠ .run) : s.watchReport n r = s := by
  unfold State.watchReport
  split
  · exact State.evaluateTrigger_off (.inl h)
  · rfl

theorem State.watchReport_eq :
    s.watchReport n r = (s.setLink (s.watchReport n r).link).setTrigger (s.watchReport n r).trigger := by
  unfold State.watchReport
  split
  · exact State.evaluateTrigger_eq _ _
  · rfl

/-- The evaluation commutes with an update that neither moves nor reads what it reads and moves: the station state, the
trigger record and the link. -/
theorem State.watchReport_comm (f : State → State)
    (hf : ∀ l k, f ((s.setLink l).setTrigger k) = ((f s).setLink l).setTrigger k)
    (hstation : (f s).halt.station = s.halt.station) (htrigger : (f s).trigger = s.trigger)
    (hlink : (f s).link = s.link) : (f s).watchReport n r = f (s.watchReport n r) := by
  unfold State.watchReport
  rw [htrigger]
  split
  · obtain ⟨hk, hl⟩ := State.evaluateTrigger_congr r.state r.measured hstation htrigger hlink
    rw [State.evaluateTrigger_eq (s := f s), hk, hl, ← hf, ← State.evaluateTrigger_eq]
  · rfl

/-- A firing trigger sends a cue frame, never a HALT (R117). -/
theorem State.watchReport_haltSlot : (s.watchReport n r).link.haltSlot = s.link.haltSlot := by
  unfold State.watchReport State.evaluateTrigger State.placeCue
  repeat' split
  all_goals rfl

/-! The report whole (R100, log 10). -/

/-- The report in the peer table and in the seen set, before halt control and the trigger take it. -/
def State.withReport (s : State) : State := (s.writePeer n r).joinSeen n r

theorem State.withReport_eq :
    s.withReport n r = (s.setPeers (s.withReport n r).peers).setRunning (s.running.seeing n r) := by
  unfold State.withReport
  rw [State.joinSeen_eq]
  rfl

theorem State.withReport_peers : (s.withReport n r).peers = (s.writePeer n r).peers := by
  rw [State.withReport, State.joinSeen_eq, State.setRunning_peers]

/-- The trigger evaluates a report alike before and after it is written. -/
theorem State.watchReport_withReport :
    (s.withReport n r).watchReport n r = (s.watchReport n r).withReport n r := by
  refine State.watchReport_comm n r (State.withReport n r) (fun l k => ?_) ?_ ?_ ?_
  · simp only [State.withReport, State.joinSeen_eq]
    rfl
  all_goals rw [State.withReport_eq]; rfl

theorem State.withReport_haltedBy : (s.withReport n r).haltedBy r ↔ s.haltedBy r := by
  rw [State.withReport_eq]
  rfl

/-- A report once the table, the seen set and halt control have taken it. -/
def State.takeReport (s : State) : State := (s.withReport n r).haltReport n r

theorem State.takeReport_frame :
    (s.takeReport n r).peers = (s.writePeer n r).peers ∧ (s.takeReport n r).stick = s.stick ∧
    (s.takeReport n r).mark = s.mark ∧ (s.takeReport n r).port = s.port ∧ (s.takeReport n r).start = s.start ∧
    (s.takeReport n r).link.haltSlot = s.link.haltSlot ∧ (s.takeReport n r).link.cueList = s.link.cueList ∧
    (s.takeReport n r).link.counters.outDrop = s.link.counters.outDrop := by
  rw [← State.withReport_peers]
  have hframe := State.haltReport_frame (s := s.withReport n r) n r
  rw [State.withReport_eq] at hframe
  rw [State.takeReport, State.withReport_eq]
  exact hframe

theorem State.takeReport_halts (h : s.haltedBy r) :
    (s.takeReport n r).halt =
      { station := .halting, causes := s.halt.causes ||| causePeer, epoch := s.halt.epoch,
        record := some { origin := n, entryCauses := causePeer, originCauses := r.causes,
                         entryEpoch := s.halt.epoch } } ∧
    (s.takeReport n r).running = RunningSlot.idle ∧
    (s.takeReport n r).trigger = { s.trigger with state := .disarmed } := by
  rw [State.takeReport, State.haltReport_halts n r ((State.withReport_haltedBy n r).mpr h), State.withReport_eq]
  simp

theorem State.takeReport_quiet (h : ¬ s.haltedBy r) :
    (s.takeReport n r).halt = s.halt.reported r ∧ (s.takeReport n r).running = s.running.seeing n r ∧
    (s.takeReport n r).next = s.next ∧ (s.takeReport n r).trigger = s.trigger := by
  rw [State.takeReport, State.haltReport_quiet n r (mt (State.withReport_haltedBy n r).mp h), State.withReport_eq]
  exact ⟨rfl, rfl, rfl, rfl⟩

/-- In either order a report acts as the trigger's evaluation followed by the rest; the evaluation falls away where the
halt check comes first and halts the station, which disarms the trigger (R100, R119). -/
theorem State.actState_eq {raw : RawReport} (haltFirst : Bool) (hr : reportOf raw = some r) : ∃ u,
    (haltFirst = true ∧ s.haltedBy r → u = s) ∧ (¬ (haltFirst = true ∧ s.haltedBy r) → u = s.watchReport n r) ∧
    s.actState n raw haltFirst = u.takeReport n r := by
  have hact : s.actState n raw haltFirst =
      if haltFirst then ((s.withReport n r).haltReport n r).watchReport n r
      else ((s.withReport n r).watchReport n r).haltReport n r := by
    rw [State.actState, hr]
    rfl
  cases haltFirst with
  | false => exact ⟨s.watchReport n r, nofun, fun _ => rfl, by rw [hact, State.watchReport_withReport]; rfl⟩
  | true =>
    by_cases hhalts : s.haltedBy r
    · refine ⟨s, fun _ => rfl, fun h => absurd ⟨rfl, hhalts⟩ h, ?_⟩
      rw [hact, if_pos rfl, State.takeReport, State.haltReport_halts n r ((State.withReport_haltedBy n r).mpr hhalts)]
      exact State.watchReport_outside n r nofun
    · refine ⟨s.watchReport n r, fun h => absurd h.2 hhalts, fun _ => rfl, ?_⟩
      have hquiet : ¬ (s.withReport n r).haltedBy r := mt (State.withReport_haltedBy n r).mp hhalts
      have hlater : ¬ ((s.withReport n r).watchReport n r).haltedBy r := by
        rw [State.watchReport_eq]
        exact hquiet
      have hhalt : ((s.withReport n r).watchReport n r).halt = (s.withReport n r).halt := by
        rw [State.watchReport_eq]
        rfl
      rw [hact, if_pos rfl, State.takeReport, ← State.watchReport_withReport, State.haltReport_quiet n r hquiet,
        State.haltReport_quiet n r hlater, hhalt]
      exact State.watchReport_comm n r (fun t => t.setHalt ((s.withReport n r).halt.reported r)) (fun _ _ => rfl)
        (Halt.reported_station r _) rfl rfl

theorem exec_state {raw : RawReport} {haltFirst : Bool} (hs : s.hears n) :
    exec (.state n raw haltFirst) s = .next (s.heard.actState n raw haltFirst) :=
  congrArg Host.Outcome.next (State.arrive_heard hs)

/-- A report in range reaches the table, the seen set and halt control in a state that differs from the one it arrives in by
the counted arrival and, where the trigger evaluates it, by what that moves of the link and the trigger record. -/
theorem exec_state_taken {raw : RawReport} (haltFirst : Bool) (hs : s.hears n) (hr : reportOf raw = some r) :
    ∃ l k, l.haltSlot = s.link.haltSlot ∧
      exec (.state n raw haltFirst) s = .next (((s.setLink l).setTrigger k).takeReport n r) ∧
      (s.trigger.watched = n → ¬ (haltFirst = true ∧ s.haltedBy r) →
        (s.setLink l).setTrigger k = s.heard.evaluateTrigger r.state r.measured) ∧
      (s.trigger.watched ≠ n ∨ haltFirst = true ∧ s.haltedBy r → (s.setLink l).setTrigger k = s.heard) := by
  obtain ⟨u, hhalted, hwatch, hact⟩ := State.actState_eq (s := s.heard) n r haltFirst hr
  rw [exec_state n hs, hact]
  by_cases h : haltFirst = true ∧ s.haltedBy r
  · obtain rfl := hhalted h
    exact ⟨s.heard.link, s.heard.trigger, State.heard_haltSlot, rfl, fun _ hnot => absurd h hnot, fun _ => rfl⟩
  · obtain rfl := hwatch h
    have hu := State.watchReport_eq (s := s.heard) n r
    exact ⟨_, _, (State.watchReport_haltSlot n r).trans State.heard_haltSlot,
      congrArg (fun u => Host.Outcome.next (State.takeReport n r u)) hu,
      fun hw _ => hu.symm.trans (State.watchReport_watched n r hw),
      fun hor => hu.symm.trans (State.watchReport_other n r (hor.resolve_right h))⟩

/-- Settles O39: the fields as they are read, then the report as the trigger, the table and halt control take it. -/
theorem stateReportIsWritten : Obligations.StateReportIsWritten := by
  refine ⟨fun raw => ⟨?_, fun r hr => ?_⟩, fun n raw first s hs => ⟨fun hnone => ?_, fun r hr => ?_⟩⟩
  · rw [reportOf_eq_none_iff, reportedKindOf_eq_none, stationStateOf_eq_none, cueStateOf_eq_none, nextStateOf_eq_none,
      stationFieldOf_eq_none, not_reportNumbersInRange_iff]
  · obtain ⟨hkind, hst, hcue, hnx, howner, -, hrest⟩ := (reportOf_eq_some_iff raw r).mp hr
    obtain ⟨hnamed, hdropped⟩ := namedFlags_kept raw.flags
    rw [hrest]
    exact ⟨axisKindCode_of_read _ _ hkind, stationStateCode_of_read _ _ hst, rfl, rfl, rfl, rfl, hnamed, hdropped, rfl, rfl,
      cueStateCode_of_read _ _ hcue, rfl, rfl, stationField_of_read _ _ howner, rfl, nextStateCode_of_read _ _ hnx⟩
  · rw [exec_state n hs, State.actState, hnone]
  · obtain ⟨l, k, hslot, hexec, hwatched, hother⟩ := exec_state_taken n r first hs hr
    obtain ⟨hpeers, hstick, hmark, hport, hstart, hkept, hlist, hdrop⟩ :=
      State.takeReport_frame (s := (s.setLink l).setTrigger k) n r
    have hhalts := State.takeReport_halts (s := (s.setLink l).setTrigger k) n r
    have hquiet := State.takeReport_quiet (s := (s.setLink l).setTrigger k) n r
    refine ⟨_, hexec, ?_⟩
    generalize ((s.setLink l).setTrigger k).takeReport n r = t at *
    refine ⟨?_, fun m hm => ?_, ?_, ⟨fun hst => ?_, fun hst hr => ?_, fun hst hr => ?_, fun hst hr => ?_, fun h => ?_,
      _, hwatched, hother, hlist, hdrop, fun h => ?_, fun h => ?_⟩, hstick, hmark, hport, hstart⟩
    · rw [hpeers]
      exact State.writePeer_sender (s := (s.setLink l).setTrigger k) n r
    · rw [hpeers]
      exact State.writePeer_others (s := (s.setLink l).setTrigger k) n r hm
    · rw [hpeers]
      rfl
    · obtain ⟨hhalt, -⟩ := hquiet fun h => nomatch hst.symm.trans h.1
      exact hhalt.trans (Halt.reported_config r hst)
    · obtain ⟨hhalt, hidle, -⟩ := hhalts ⟨hst, hr⟩
      exact ⟨hhalt, hidle, hkept.trans hslot⟩
    · obtain ⟨hhalt, -⟩ := hquiet fun h => hst.elim (fun hst => nomatch hst.symm.trans h.1)
        fun hst => nomatch hst.symm.trans h.1
      exact hhalt.trans (Halt.reported_latched r hst hr)
    · obtain ⟨hhalt, -⟩ := hquiet fun h => hr h.2
      exact hhalt.trans (Halt.reported_kept r hst hr)
    · obtain ⟨-, hrunning, hnext, -⟩ := hquiet h
      exact ⟨hnext, hrunning⟩
    · obtain ⟨-, -, htrigger⟩ := hhalts h
      exact htrigger
    · obtain ⟨-, -, -, htrigger⟩ := hquiet h
      exact htrigger

end Sys2Proof.Machine

/-! SUPPORT. The position trigger: what one evaluation does in each of its states, and what its requests answer (R114 to
R118). -/

namespace Sys2Proof.Machine

variable {s : State} {k : Trigger} {h : ReqHeader}

/-! One evaluation (R115 to R117). -/

theorem Trigger.near_iff (p : Int) :
    k.near p = true ↔ (k.sense = .rising ∧ p < k.threshold - k.hysteresis) ∨
      (k.sense = .falling ∧ p > k.threshold + k.hysteresis) := by
  unfold Trigger.near
  split <;> rename_i hsense <;> simp [hsense]

theorem Trigger.crossed_iff (p : Int) :
    k.crossed p = true ↔ (k.sense = .rising ∧ p ≥ k.threshold) ∨ (k.sense = .falling ∧ p ≤ k.threshold) := by
  unfold Trigger.crossed
  split <;> rename_i hsense <;> simp [hsense]

/-- A report of CONFIG is not evaluated (R115). -/
theorem State.evaluateTrigger_config (p : Int) : s.evaluateTrigger .config p = s := if_neg fun h => h.2 rfl

theorem State.evaluateTrigger_arming {reported : StationState} (p : Int) (hrun : s.halt.station = .run)
    (hrep : reported ≠ .config) (hk : s.trigger.state = .arming) :
    s.evaluateTrigger reported p =
      if s.trigger.near p then s.setTrigger { s.trigger with state := .armed } else s := by
  rw [State.evaluateTrigger, if_pos ⟨hrun, hrep⟩, hk]

theorem State.evaluateTrigger_armed {reported : StationState} (p : Int) (hrun : s.halt.station = .run)
    (hrep : reported ≠ .config) (hk : s.trigger.state = .armed) :
    s.evaluateTrigger reported p =
      if s.trigger.crossed p then
        (s.placeCue (.go s.trigger.mask s.trigger.cueId)).setTrigger { s.trigger with state := .disarmed }
      else s := by
  rw [State.evaluateTrigger, if_pos ⟨hrun, hrep⟩, hk]

/-! TRIGGER_ARM, TRIGGER_DISARM and TRIGGER_READ (R114, R118). -/

theorem exec_triggerArm (hs : s.serves h) (a : ArmArgs) :
    exec (.triggerArm h (.fields a)) s = .next ((armAnswer a s.heard).reply h 0x20) :=
  congrArg Host.Outcome.next (State.request_served hs)

theorem exec_triggerDisarm (hs : s.serves h) :
    exec (.triggerDisarm h (.fields ())) s = .next ((disarmAnswer s.heard).reply h 0x21) :=
  congrArg Host.Outcome.next (State.request_served hs)

theorem exec_triggerRead (hs : s.serves h) :
    exec (.triggerRead h (.fields ())) s = .next ((triggerReadAnswer s.heard).reply h 0x22) :=
  congrArg Host.Outcome.next (State.request_served hs)

theorem senseOf_eq_none (b : Byte) : senseOf b = none ↔ 2 ≤ b.toNat := by
  rw [← Option.not_isSome_iff_eq_none, senseOf_isSome, Nat.not_lt]

theorem triggerOf_outOfRange {a : ArmArgs}
    (hbad : 16 ≤ a.watched.toNat ∨ 2 ≤ a.sense.toNat ∨ a.cueId = 255 ∨ a.mask = 0) : triggerOf a = none := by
  unfold triggerOf
  split
  · rename_i w se hw hse
    refine if_neg fun ⟨hcue, hmask⟩ => ?_
    rcases hbad with hbad | hbad | hbad | hbad
    · simp [stationOf_outOfRange hbad] at hw
    · simp [(senseOf_eq_none a.sense).mpr hbad] at hse
    · exact hcue hbad
    · exact hmask hbad
  · rfl

theorem triggerOf_inRange {a : ArmArgs} {w : Station} {se : Sense} (hw : a.watched = stationByte w)
    (hse : a.sense = senseCode se) (hcue : a.cueId ≠ 255) (hmask : a.mask ≠ 0) :
    triggerOf a =
      some { state := .arming, watched := w, sense := se, threshold := a.threshold.toInt,
             hysteresis := a.hysteresis.toNat, cueId := a.cueId, mask := a.mask } := by
  rw [triggerOf, hw, hse, stationOf_stationByte, senseOf_code]
  exact if_pos ⟨hcue, hmask⟩

theorem armAnswer_outOfRange {a : ArmArgs} (hbad : triggerOf a = none) : armAnswer a s = s.answer .badRequest := by
  rw [armAnswer, hbad]

/-- With its fields in range TRIGGER_ARM is refused in CONFIG only (R114). -/
theorem armAnswer_inRange {a : ArmArgs} (hk : triggerOf a = some k) :
    armAnswer a s = if s.halt.station = .config then s.answer .wrongState else (s.setTrigger k).done [] := by
  rw [armAnswer, hk]

/-- Settles O40: one evaluation by the state of the trigger, then each request by what its owner answers. -/
theorem triggerArmsAndFires : Obligations.TriggerArmsAndFires := by
  refine ⟨fun s reported p => ⟨fun hoff => ?_, fun hrun hrep hk => ?_,
      fun hrun hrep hk => ⟨fun hcross => ?_, fun hcross => ?_⟩⟩,
    fun h a s hs => ⟨fun hbad => ?_, fun w se hw hse hcue hmask => ⟨fun hconfig => ?_, fun hconfig => ?_⟩, ?_, ?_⟩⟩
  · rcases hoff with hstation | rfl | hdisarmed
    · exact State.evaluateTrigger_off (.inl hstation)
    · exact State.evaluateTrigger_config p
    · exact State.evaluateTrigger_off (.inr hdisarmed)
  · rw [State.evaluateTrigger_arming p hrun hrep hk]
    exact if_congr (Trigger.near_iff p) rfl rfl
  · have hfires := (State.evaluateTrigger_armed p hrun hrep hk).trans (if_pos ((Trigger.crossed_iff p).mpr hcross))
    refine ⟨fun hroom => ?_, fun hfull => ?_⟩
    · rw [hfires, State.placeCue_room hroom]
    · rw [hfires, State.placeCue_full (Nat.not_lt.mpr hfull)]
      rfl
  · exact (State.evaluateTrigger_armed p hrun hrep hk).trans (if_neg (mt (Trigger.crossed_iff p).mp hcross))
  · rw [exec_triggerArm hs, armAnswer_outOfRange (triggerOf_outOfRange hbad), State.answer_reply]
  · rw [exec_triggerArm hs, armAnswer_inRange (triggerOf_inRange hw hse hcue hmask), State.heard_halt, if_pos hconfig,
      State.answer_reply]
  · rw [exec_triggerArm hs, armAnswer_inRange (triggerOf_inRange hw hse hcue hmask), State.heard_halt, if_neg hconfig,
      State.done_reply]
  · exact exec_triggerDisarm hs
  · exact exec_triggerRead hs

end Sys2Proof.Machine

/-! SUPPORT. The mark unit: the four lines by their number, what a sample event leaves in them and in the standing, when it
fires, and what a firing latches and does (R120 to R125). -/

namespace Sys2Proof.Machine

variable {s : State}

/-! The four lines by their number. -/

@[simp] theorem Lines.at_map {α β : Type} (f : α → β) (l : Lines α) : ∀ n, (l.map f).at n = f (l.at n)
  | 0 | 1 | 2 | 3 => rfl

@[simp] theorem Lines.at_zip {α β γ : Type} (f : α → β → γ) (a : Lines α) (b : Lines β) :
    ∀ n, (Lines.zip f a b).at n = f (a.at n) (b.at n)
  | 0 | 1 | 2 | 3 => rfl

@[simp] theorem linesOf_at (m : BitVec 4) : ∀ n, (linesOf m).at n = m.getLsbD n.val
  | 0 | 1 | 2 | 3 => rfl

theorem Lines.any_iff (l : Lines Bool) : l.toList.any id = true ↔ ∃ n, l.at n = true := by
  simp [Lines.toList, Fin.exists_fin_succ, Lines.at]

theorem Lines.all_iff (l : Lines Bool) : l.toList.all id = true ↔ ∀ n, l.at n = true := by
  simp [Lines.toList, Fin.forall_fin_succ, Lines.at]

/-- An accepted change: the level was the other one, and this sample is the second that agrees (R120). -/
theorem MarkLine.changes_iff (l : MarkLine) (level : Bool) :
    l.changes level = true ↔ l.accepted = some (!level) ∧ l.previous = some level := by
  obtain ⟨previous, accepted⟩ := l
  by_cases hagree : previous = some level
  · cases accepted <;> simp [MarkLine.changes, MarkLine.sample, hagree, Bool.eq_not, eq_comm]
  · simp [MarkLine.changes, MarkLine.sample, hagree]

theorem anyUnmasked_iff (mask changes : Lines Bool) :
    anyUnmasked mask changes = true ↔ ∃ n, mask.at n = false ∧ changes.at n = true := by
  simp only [anyUnmasked, Lines.any_iff, Lines.at_zip, Bool.and_eq_true, Bool.not_eq_true']

theorem linesMatch_iff (mask pattern : Lines Bool) (accepted : Lines (Option Bool)) :
    linesMatch mask pattern accepted = true ↔ ∀ n, mask.at n = false → accepted.at n = some (pattern.at n) := by
  simp only [linesMatch, Lines.all_iff, Lines.at_zip, Bool.or_eq_true, decide_eq_true_eq]
  exact forall_congr' fun n => by cases mask.at n <;> simp

/-! The sample event (R120, R122, R123). -/

theorem State.inMatch_iff :
    s.inMatch = true ↔ ∀ n : Fin 4, s.record.markMask.getLsbD n.val = false →
      (s.mark.lines.at n).accepted = some (s.record.markPattern.getLsbD n.val) := by
  simp [State.inMatch, linesMatch_iff, Mark.accepted]

theorem State.takenStanding_inMatch_iff : s.takenStanding = .inMatch ↔ s.inMatch = true := by
  simp [State.takenStanding]

@[simp] theorem State.sampled_line (levels : BitVec 4) (n : Fin 4) :
    (s.sampled levels).mark.lines.at n = (s.mark.lines.at n).sample (levels.getLsbD n.val) := by
  simp [State.sampled]

@[simp] theorem State.sampled_record (levels : BitVec 4) : (s.sampled levels).record = s.record := rfl

@[simp] theorem State.restand_lines : s.restand.mark.lines = s.mark.lines := by
  unfold State.restand
  split <;> rfl

@[simp] theorem State.restand_latched : s.restand.mark.latched = s.mark.latched := by
  unfold State.restand
  split <;> rfl

theorem State.restand_eq : s.restand = s.setMark s.restand.mark := by
  unfold State.restand
  split <;> rfl

theorem State.restand_standing (h : s.record.markMode = .pattern) : s.restand.mark.standing = s.takenStanding := by
  rw [State.restand, if_pos h]
  rfl

/-- The state after a sample event's sampling and, in MATCH, its standing, before anything fires (R120, R123). -/
def State.afterSample (levels : BitVec 4) (s : State) : State := (s.sampled levels).restand

theorem execMarkSample_eq (levels : BitVec 4) (h : s.pins.rstn = true) :
    exec (.markSample levels) s =
      .next (if s.markFires levels then (s.afterSample levels).markFiring else s.afterSample levels) :=
  congrArg Host.Outcome.next (if_pos h)

theorem State.afterSample_eq (levels : BitVec 4) : s.afterSample levels = s.setMark (s.afterSample levels).mark := by
  rw [State.afterSample, State.restand_eq]
  rfl

@[simp] theorem State.afterSample_halt (levels : BitVec 4) : (s.afterSample levels).halt = s.halt := by
  rw [State.afterSample_eq, State.setMark_halt]

@[simp] theorem State.afterSample_next (levels : BitVec 4) : (s.afterSample levels).next = s.next := by
  rw [State.afterSample_eq, State.setMark_next]

@[simp] theorem State.afterSample_record (levels : BitVec 4) : (s.afterSample levels).record = s.record := by
  rw [State.afterSample_eq, State.setMark_record]

@[simp] theorem State.afterSample_latched (levels : BitVec 4) :
    (s.afterSample levels).mark.latched = s.mark.latched := State.restand_latched

theorem State.afterSample_line (levels : BitVec 4) (n : Fin 4) :
    (s.afterSample levels).mark.lines.at n = (s.mark.lines.at n).sample (levels.getLsbD n.val) := by
  rw [State.afterSample, State.restand_lines, State.sampled_line]

/-- In MATCH the standing is in match where the accepted levels stand so after the sample (R123). -/
theorem State.afterSample_inMatch_iff (levels : BitVec 4) (h : s.record.markMode = .pattern) :
    (s.afterSample levels).mark.standing = .inMatch ↔
      ∀ n : Fin 4, s.record.markMask.getLsbD n.val = false →
        ((s.afterSample levels).mark.lines.at n).accepted = some (s.record.markPattern.getLsbD n.val) := by
  rw [State.afterSample, State.restand_standing (s := s.sampled levels) h, State.takenStanding_inMatch_iff,
    State.inMatch_iff, State.restand_lines, State.sampled_record]

theorem State.markFires_off (levels : BitVec 4) (h : s.record.markMode = .off) : s.markFires levels = false := by
  rw [State.markFires, h]

theorem State.markFires_event_iff (levels : BitVec 4) (h : s.record.markMode = .event) :
    s.markFires levels = true ↔ ∃ n : Fin 4, s.record.markMask.getLsbD n.val = false ∧
      (s.mark.lines.at n).changes (levels.getLsbD n.val) = true := by
  rw [State.markFires, h]
  simp [anyUnmasked_iff]

theorem State.markFires_pattern_iff (levels : BitVec 4) (h : s.record.markMode = .pattern) :
    s.markFires levels = true ↔ s.mark.standing = .out ∧ (s.sampled levels).inMatch = true := by
  rw [State.markFires, h]
  simp

/-! A firing (R124, R125). -/

/-- The accepted levels latched (R125). -/
def State.patternLatched (s : State) : State := s.setMark { s.mark with latched := some s.mark.accepted }

@[simp] theorem State.patternLatched_halt : s.patternLatched.halt = s.halt := rfl

theorem State.patternLatched_latched : ∃ l, s.patternLatched.mark.latched = some l ∧
    ∀ n, l.at n = (s.patternLatched.mark.lines.at n).accepted :=
  ⟨s.mark.accepted, rfl, Lines.at_map MarkLine.accepted s.mark.lines⟩

theorem State.markFiring_run (h : s.halt.station = .run) : s.markFiring = s.patternLatched.markActionRun := by
  simp [State.markFiring, State.patternLatched, h]

theorem State.markFiring_halting (h : s.halt.station = .halting ∨ s.halt.station = .halted) :
    s.markFiring = s.patternLatched.markActionHalted := by
  rcases h with h | h <;> simp [State.markFiring, State.patternLatched, h]

theorem State.markFiring_config (h : s.halt.station = .config) : s.markFiring = s.patternLatched := by
  simp [State.markFiring, State.patternLatched, h]

@[simp] theorem State.placeCue_mark (f : CueFrame) : (s.placeCue f).mark = s.mark := by
  unfold State.placeCue
  split <;> rfl

@[simp] theorem State.markActionRun_mark : s.markActionRun.mark = s.mark := by
  unfold State.markActionRun
  split
  · split
    · rfl
    · exact State.placeCue_mark _
  · exact State.placeCue_mark _
  · exact State.raise_mark _

@[simp] theorem State.markActionHalted_mark : s.markActionHalted.mark = s.mark := by
  unfold State.markActionHalted
  split
  · rfl
  · rfl
  · exact State.raise_mark _

/-- Of the mark unit a firing moves the latch only. -/
theorem State.markFiring_mark : s.markFiring.mark = s.patternLatched.mark := by
  cases h : s.halt.station with
  | run => rw [State.markFiring_run h, State.markActionRun_mark]
  | halting => rw [State.markFiring_halting (.inl h), State.markActionHalted_mark]
  | halted => rw [State.markFiring_halting (.inr h), State.markActionHalted_mark]
  | config => rw [State.markFiring_config h]

theorem State.markActionRun_goEmpty (ha : s.record.markAction = .go) (hn : s.next.state = .empty) :
    s.markActionRun = s.countMiss := by
  rw [State.markActionRun, ha]
  exact if_pos hn

theorem State.markActionRun_go (ha : s.record.markAction = .go) (hn : s.next.state ≠ .empty) :
    s.markActionRun = s.placeCue (.go s.record.goMask s.next.cueId) := by
  rw [State.markActionRun, ha]
  exact if_neg hn

theorem State.markActionRun_stop (ha : s.record.markAction = .stop) :
    s.markActionRun = s.placeCue (.stop s.record.goMask 255) := by
  rw [State.markActionRun, ha]

theorem State.markActionRun_halt (ha : s.record.markAction = .halt) (hrun : s.halt.station = .run) :
    s.markActionRun = s.localFault causeMark := by
  rw [State.markActionRun, ha]
  exact State.raise_run hrun (by decide)

theorem State.markActionHalted_halt (ha : s.record.markAction = .halt)
    (hst : s.halt.station = .halting ∨ s.halt.station = .halted) : s.markActionHalted = s.latch causeMark := by
  rw [State.markActionHalted, ha]
  exact State.raise_halting hst (by decide)

theorem State.markActionHalted_other (ha : s.record.markAction ≠ .halt) : s.markActionHalted = s := by
  unfold State.markActionHalted
  split
  · rfl
  · rfl
  · contradiction

/-- The mark unit after a sample event keeps the lines and the standing of the sample, whether or not it fires. -/
theorem execMarkSample_mark (levels : BitVec 4) (h : s.pins.rstn = true) : ∃ t, exec (.markSample levels) s = .next t ∧
    t.mark.lines = (s.afterSample levels).mark.lines ∧ t.mark.standing = (s.afterSample levels).mark.standing ∧
    (s.markFires levels = false → t = s.afterSample levels) := by
  refine ⟨_, execMarkSample_eq levels h, ?_⟩
  cases s.markFires levels with
  | false => exact ⟨rfl, rfl, fun _ => rfl⟩
  | true =>
    rw [if_pos rfl, State.markFiring_mark]
    exact ⟨rfl, rfl, nofun⟩

/-- Settles O41: the lines and the standing are the sample's whether or not it fires, and a firing alone moves more. -/
theorem markLinesAreSampled : Obligations.MarkLinesAreSampled := by
  intro levels s hrstn
  obtain ⟨t, hexec, hlines, hstanding, hquiet⟩ := execMarkSample_mark levels hrstn
  refine ⟨t, hexec, fun n => ?_, fun hmode => ?_, fun hnot => ?_⟩
  · rw [hlines]
    exact State.afterSample_line levels n
  · rw [hlines, hstanding]
    exact State.afterSample_inMatch_iff levels hmode
  · rw [hquiet hnot]
    exact ⟨State.afterSample_latched levels, State.afterSample_eq levels⟩

/-- What a firing does, by the station state: the action of the record taken on the state with the pattern latched (R124). -/
theorem State.markFiring_acts :
    (s.halt.station = .run →
      (s.record.markAction = .go → s.next.state = .empty → s.markFiring = s.patternLatched.countMiss) ∧
      (s.record.markAction = .go → s.next.state ≠ .empty →
        s.markFiring = s.patternLatched.placeCue (.go s.record.goMask s.next.cueId)) ∧
      (s.record.markAction = .stop → s.markFiring = s.patternLatched.placeCue (.stop s.record.goMask 255)) ∧
      (s.record.markAction = .halt → s.markFiring = s.patternLatched.localFault causeMark)) ∧
    (s.halt.station = .halting ∨ s.halt.station = .halted →
      (s.record.markAction = .halt → s.markFiring = s.patternLatched.latch causeMark) ∧
      (s.record.markAction ≠ .halt → s.markFiring = s.patternLatched)) ∧
    (s.halt.station = .config → s.markFiring = s.patternLatched) := by
  refine ⟨fun hst => ?_, fun hst => ?_, State.markFiring_config⟩
  · rw [State.markFiring_run hst]
    exact ⟨State.markActionRun_goEmpty (s := s.patternLatched), State.markActionRun_go (s := s.patternLatched),
      State.markActionRun_stop (s := s.patternLatched), fun ha => State.markActionRun_halt (s := s.patternLatched) ha hst⟩
  · rw [State.markFiring_halting hst]
    exact ⟨fun ha => State.markActionHalted_halt (s := s.patternLatched) ha hst,
      State.markActionHalted_other (s := s.patternLatched)⟩

/-- Settles O42: the firing test mode by mode, then the latch and the action by the station state. -/
theorem markFiringLatchesAndActs : Obligations.MarkFiringLatchesAndActs := by
  refine ⟨fun levels s => ⟨State.markFires_off levels, fun hmode => ?_, fun hmode => ?_⟩,
    fun levels s hrstn hfires => ?_⟩
  · simp only [State.markFires_event_iff levels hmode, MarkLine.changes_iff]
  · rw [State.markFires_pattern_iff levels hmode, State.inMatch_iff]
    simp only [State.sampled_line]
    rfl
  · have hexec := execMarkSample_eq levels hrstn
    rw [if_pos hfires] at hexec
    have hlatched : (s.afterSample levels).patternLatched =
        s.setMark (s.afterSample levels).patternLatched.mark := by
      rw [State.patternLatched, State.afterSample_eq]
      rfl
    have hmark := State.markFiring_mark (s := s.afterSample levels)
    have hacts := State.markFiring_acts (s := s.afterSample levels)
    simp only [State.afterSample_halt, State.afterSample_next, State.afterSample_record] at hacts
    obtain ⟨hrun, hhalting, hconfig⟩ := hacts
    refine ⟨_, (s.afterSample levels).patternLatched, hexec, hlatched, hmark, ?_, hrun, fun hst => ?_, hconfig⟩
    · rw [hmark]
      exact State.patternLatched_latched
    · obtain ⟨hhalt, hother⟩ := hhalting hst
      refine ⟨fun ha => (hhalt ha).trans ?_, hother⟩
      rw [State.latch, State.patternLatched_halt, State.afterSample_halt]

end Sys2Proof.Machine

/-! SUPPORT. A local fault in RUN, a cause raised outside RUN, and what each block does at the entry to HALTING (R15, R53,
R79, R119, R128, R129, R132). -/

namespace Sys2Proof.Machine

variable {s : State}

/-! Raised causes (R128, R129). -/

@[simp] theorem State.latch_none : s.latch 0#8 = s := by
  rw [State.latch, BitVec.or_zero]
  exact s.setHalt_self

/-- A station that halts already latches every cause, the empty set included (R128). -/
theorem State.raise_latches (c : Causes) (h : s.halt.station = .halting ∨ s.halt.station = .halted) :
    s.raise c = s.latch c := by
  by_cases hc : c = 0
  · rw [hc]
    exact State.raise_none.trans State.latch_none.symm
  · exact State.raise_halting h hc

/-- CONFIG latches NUMBER_CLASH alone of any set of causes (R128). -/
theorem State.raise_latches_numberClash (c : Causes) (h : s.halt.station = .config) :
    s.raise c = s.latch (c &&& causeNumberClash) := by
  by_cases hc : c = 0
  · rw [hc]
    exact State.raise_none.trans State.latch_none.symm
  · exact State.raise_config h hc

/-- Settles O15: a local fault is the entry to HALTING with the halt record and the HALT frame, and outside RUN a raised
cause is a latch. -/
theorem raisedCausesAreTaken : Obligations.RaisedCausesAreTaken := by
  refine ⟨fun c s hc hrun => ⟨State.raise_run hrun hc, ?_⟩,
    fun c s => ⟨State.raise_latches c, State.raise_latches_numberClash c⟩⟩
  rw [State.localFault_eq]
  exact ⟨rfl, rfl, rfl⟩

/-! The entry to HALTING (R132). -/

theorem NextSlot.backToLoaded_seek {n : NextSlot} (h : n.state = .seeking ∨ n.state = .ready) :
    n.backToLoaded = { n with state := .loaded } := if_pos h

theorem NextSlot.backToLoaded_rest {n : NextSlot} (h : n.state = .empty ∨ n.state = .loaded) : n.backToLoaded = n := by
  rcases h with h | h <;> exact if_neg (by simp [h])

theorem State.closeRecording_compacting (r : Recording) (b : Bool) :
    (s.closeRecording r b).store.compacting = s.store.compacting := by
  rcases Nat.lt_or_ge (s.store.entry r.preset).count 2 with hcount | hcount
  · rw [State.closeRecording_tooShort hcount]
    rfl
  · rw [State.closeRecording_kept hcount]
    rfl

/-- The end of a recording leaves an open download and a compaction as they stand (R15). -/
theorem State.endRecording_download : s.endRecording.store.download = s.store.download := by
  cases hr : s.store.recording with
  | none => rw [State.endRecording_none hr]
  | some r => exact (State.endRecording_others hr).1

theorem State.endRecording_compacting : s.endRecording.store.compacting = s.store.compacting := by
  cases hr : s.store.recording with
  | none => rw [State.endRecording_none hr]
  | some r =>
    by_cases hfinal : r.elapsed ≠ r.lastCapture ∧ s.store.hwm < 1024
    · rw [State.endRecording_final hr hfinal]
      exact State.closeRecording_compacting r false
    · rw [State.endRecording_plain hr hfinal]
      exact State.closeRecording_compacting r false

/-- Settles O16: block by block, with the store and the link as the end of the recording leaves them. -/
theorem entryToHalting : Obligations.EntryToHalting := by
  intro s t
  obtain ⟨hhalt, hcues, hstate, hreply, hflight, -⟩ := State.endRecording_list (s := s)
  refine ⟨State.enterHalting_halt, State.enterHalting_running,
    fun h => State.enterHalting_next.trans (NextSlot.backToLoaded_seek h),
    fun h => State.enterHalting_next.trans (NextSlot.backToLoaded_rest h), State.enterHalting_blend,
    State.enterHalting_trigger, State.enterHalting_store, State.endRecording_recording, State.endRecording_download,
    State.endRecording_compacting, fun h => ?_, State.enterHalting_stick, State.enterHalting_peers,
    State.enterHalting_mark, State.enterHalting_port, State.enterHalting_start, hhalt, hcues, hstate, hreply, hflight,
    State.enterHalting_pending⟩
  rw [State.enterHalting_store, State.enterHalting_link, State.endRecording_none h]
  exact ⟨rfl, rfl⟩

end Sys2Proof.Machine

/-! SUPPORT. The class 0 frames: what a HALT frame does by the station state, and which causes a RESUME clears (R130, R137,
R138). -/

namespace Sys2Proof.Machine

variable {s : State}

/-! HALT (R130). -/

theorem exec_halt {sender : Station} (origin causes epoch : Byte) (hs : s.hears sender) :
    exec (.halt sender origin causes epoch) s = .next (s.heard.actHalt origin causes) :=
  congrArg Host.Outcome.next (State.arrive_heard hs)

theorem State.actHalt_discards {origin : Byte} (causes : Byte) (h : 16 ≤ origin.toNat) : s.actHalt origin causes = s := by
  rw [State.actHalt, stationOf_outOfRange h]

theorem State.actHalt_origin (o : Station) (causes : Byte) :
    s.actHalt (stationByte o) causes = s.haltFromOutside causeRemote o causes := by
  rw [State.actHalt, stationOf_stationByte]

/-- Settles O17: past the range of its origin the frame is a halt from outside, with the cause REMOTE. -/
theorem haltFrameHalts : Obligations.HaltFrameHalts := by
  intro sender origin causes epoch s hs
  refine ⟨_, exec_halt origin causes epoch hs, State.actHalt_discards causes, ?_⟩
  rintro o rfl
  rw [State.actHalt_origin]
  exact ⟨State.haltFromOutside_run_eq (s := s.heard), State.haltFromOutside_halting (s := s.heard),
    State.haltFromOutside_config (s := s.heard)⟩

/-! RESUME (R137, R138). -/

theorem exec_resume {sender : Station} (epoch : Byte) (hs : s.hears sender) :
    exec (.resume sender epoch) s = .next (s.heard.actResume epoch) :=
  congrArg Host.Outcome.next (State.arrive_heard hs)

/-- A RESUME keeps NUMBER_CLASH, and each drive cause whose condition does not hold (R128). -/
theorem clearing_compl (following lost fault : Bool) :
    ~~~(causeRemote ||| causePeer ||| causeMark ||| causeLimitSwitch ||| causeIf following causeFollowing |||
        causeIf lost causeDriveLost ||| causeIf fault causeDriveFault) =
      causeNumberClash ||| (if following then 0 else causeFollowing) ||| (if lost then 0 else causeDriveLost) |||
        (if fault then 0 else causeDriveFault) := by
  revert following lost fault
  decide

theorem State.remaining_eq : s.remaining = s.halt.causes &&&
    (causeNumberClash ||| (if s.port.error ≤ s.record.feLimit then 0 else causeFollowing) |||
      (if s.port.lastExchange = .valid then 0 else causeDriveLost) |||
      (if s.port.status = .ok then 0 else causeDriveFault)) := by
  rw [State.remaining, State.clearing, clearing_compl]
  simp only [decide_eq_true_eq]

theorem State.actResume_elsewhere (epoch : Byte) (h : s.halt.station ≠ .halted) :
    s.actResume epoch = s.setHalt { s.halt with epoch := epoch } := if_neg h

/-- At a HALTED station the causes left decide between RUN with v at 0 and HALTED as it stands (R137, R138). -/
theorem State.actResume_halted (epoch : Byte) (h : s.halt.station = .halted) :
    s.actResume epoch = (s.setHalt
      { station := if s.remaining = 0 then .run else .halted, causes := s.remaining, epoch := epoch,
        record := s.halt.record }).setBlend (if s.remaining = 0 then { s.blend with v := 0 } else s.blend) := by
  rw [State.actResume, if_pos h]
  by_cases hleft : s.remaining = 0
  · simp only [hleft, if_true, State.setHalt_halt]
    rfl
  · simp only [hleft, if_false, State.setHalt_halt, h]
    rfl

/-- Settles O18: the causes that remain, then the station state and v by whether any does. -/
theorem resumeClearsAndReturns : Obligations.ResumeClearsAndReturns := by
  intro sender epoch s hs
  refine ⟨_, exec_resume epoch hs, State.actResume_elsewhere (s := s.heard) epoch, fun h => ?_⟩
  rw [State.actResume_halted (s := s.heard) epoch h]
  exact ⟨State.remaining_eq (s := s.heard), rfl, rfl, rfl, rfl, rfl⟩

end Sys2Proof.Machine

/-! SUPPORT. The STATE report of an expiry while DRIVE_LOST stands (R134, log 9). -/

namespace Sys2Proof.Machine

variable {s : State}

theorem causesHave_iff (a b : Causes) : causesHave a b = true ↔ a &&& b = b := beq_iff_eq

theorem State.reportDue_iff : s.reportDue = true ↔
    s.halt.causes &&& causeDriveLost = causeDriveLost ∧ s.port.validSinceExpiry = false := by
  simp [State.reportDue, causesHave_iff]

/-- The state slot after an expiry: the report of R134 where it is due, and otherwise what stood in it. -/
theorem State.expiry_stateSlot :
    s.expiry.link.stateSlot = if s.reportDue then some s.computed.makeReport else s.link.stateSlot := by
  obtain ⟨-, -, -, -, -, -, -, -, -, -, -, hexpiry, -⟩ := State.expiry_frame (s := s)
  obtain ⟨-, -, -, -, -, -, -, -, -, -, -, hcomputed, -⟩ :=
    State.computeExpiry_frame (s := s.ageExpiry) s.stickSupply
  rw [hexpiry]
  cases s.reportDue with
  | true => rfl
  | false => exact hcomputed.trans State.ageExpiry_stateSlot

/-- The computation raises no cause and does not move the epoch. -/
theorem State.computed_causes : s.computed.halt.causes = s.halt.causes ∧ s.computed.halt.epoch = s.halt.epoch := by
  obtain ⟨-, -, -, -, -, -, -, -, hcauses, hepoch, -⟩ := State.computeExpiry_frame (s := s.ageExpiry) s.stickSupply
  rw [State.ageExpiry_halt] at hcauses hepoch
  exact ⟨hcauses, hepoch⟩

/-- No computation leads into CONFIG. -/
theorem State.computed_notConfig (h : s.halt.station ≠ .config) : s.computed.halt.station ≠ .config := by
  rcases State.computed_station (s := s) with hst | ⟨-, hst⟩
  · rwa [hst]
  · rw [hst]
    nofun

/-- Outside CONFIG a report carries v as it stands (R167). -/
theorem State.makeReport_velocity (h : s.halt.station ≠ .config) : s.makeReport.velocity = s.blend.v := if_neg h

/-- Settles O21: the report is of the computed state, whose causes, epoch and port are those the expiry finds. -/
theorem lostDriveIsReportedAtExpiries : Obligations.LostDriveIsReportedAtExpiries := by
  intro s hrst hst
  refine ⟨s.expiry, exec_controlPeriodExpiry (State.timerRuns_outside hrst hst), fun hlost hvalid => ?_, fun hnot => ?_⟩
  · obtain ⟨-, -, -, -, -, -, -, -, hv, -⟩ := State.expiry_frame (s := s)
    obtain ⟨hcauses, hepoch⟩ := State.computed_causes (s := s)
    refine ⟨s.computed.makeReport, ?_, rfl, ?_, hepoch, hcauses, congrArg Port.measured State.computed_port⟩
    · rw [State.expiry_stateSlot, if_pos (State.reportDue_iff.mpr ⟨hlost, hvalid⟩)]
    · exact (State.makeReport_velocity (State.computed_notConfig hst)).trans hv.symm
  · rw [State.expiry_stateSlot, if_neg (mt State.reportDue_iff.mp hnot)]

end Sys2Proof.Machine

/-! SUPPORT. What a missed exchange leaves of halt control and of DRIVE_MISS, by the station state and the miss run (R128, R129,
R149). -/

namespace Sys2Proof.Machine

variable {s t : State}

/-- The end of a recording counts no missed exchange. -/
theorem State.endRecording_driveMiss : s.endRecording.link.counters.driveMiss = s.link.counters.driveMiss := by
  unfold State.endRecording
  split
  · rfl
  · split <;> (unfold State.closeRecording; split <;> rfl)

/-- A raised cause counts neither a missed exchange nor a dropped frame. -/
theorem State.raise_counters (c : Causes) :
    (s.raise c).link.counters.driveMiss = s.link.counters.driveMiss ∧
    (s.raise c).link.counters.outDrop = s.link.counters.outDrop := by
  rcases State.raise_cases (s := s) c with h | ⟨-, -, h⟩ | ⟨-, d, -, h⟩ <;> rw [h]
  · exact ⟨rfl, rfl⟩
  · rw [State.localFault_eq]
    simp [State.endRecording_driveMiss, State.endRecording_outDrop]
  · exact ⟨rfl, rfl⟩

theorem satAdd_eq_3 (run : Nat) : satAdd 255 run 1 = 3 ↔ run = 2 := by
  unfold satAdd
  omega

/-- The state of a missed exchange stored and counted, before DRIVE_LOST. -/
def State.missCounted (s : State) : State :=
  (s.setPort { s.port with lastExchange := .missed, missRun := satAdd 255 s.port.missRun 1 }).countDriveMiss

/-- The third miss in a row raises DRIVE_LOST. -/
theorem State.missExchange_third (h : s.port.missRun = 2) : s.missExchange = s.missCounted.raise causeDriveLost := by
  simp only [State.missExchange, causeIf, (satAdd_eq_3 _).mpr h, decide_true, if_true, State.missCounted]

/-- Any other miss raises nothing, and neither does a third one in CONFIG. -/
theorem State.missExchange_kept (h : s.port.missRun ≠ 2 ∨ s.halt.station = .config) : s.missExchange = s.missCounted := by
  rcases h with h | h
  · exact State.missExchange_quiet (mt (satAdd_eq_3 _).mp h)
  · exact State.missExchange_config h

/-- What a missed exchange over `s` leaves: the miss counted, and the third in a row as DRIVE_LOST by the station state. -/
structure State.Missed (s t : State) : Prop where
  missRun : t.port.missRun = min (s.port.missRun + 1) 255
  lastExchange : t.port.lastExchange = .missed
  driveMiss : t.link.counters.driveMiss = min (s.link.counters.driveMiss + 1) 65535
  kept : s.port.missRun ≠ 2 ∨ s.halt.station = .config → t.halt = s.halt ∧ t.link.haltSlot = s.link.haltSlot
  halts : s.port.missRun = 2 → s.halt.station = .run →
    t.halt = { station := .halting, causes := s.halt.causes ||| causeDriveLost, epoch := s.halt.epoch,
               record := some { origin := s.own, entryCauses := causeDriveLost, originCauses := causeDriveLost,
                                entryEpoch := s.halt.epoch } } ∧
    t.link.haltSlot = some { origin := s.own, causes := causeDriveLost, epoch := s.halt.epoch } ∧
    t.running = RunningSlot.idle
  latches : s.port.missRun = 2 → s.halt.station = .halting ∨ s.halt.station = .halted →
    t.halt = { s.halt with causes := s.halt.causes ||| causeDriveLost } ∧ t.link.haltSlot = s.link.haltSlot

theorem State.missExchange_missed : s.Missed s.missExchange where
  missRun := by rw [State.missExchange_port]; rfl
  lastExchange := by rw [State.missExchange_port]
  driveMiss := (State.raise_counters _).1
  kept h := by
    rw [State.missExchange_kept h]
    exact ⟨rfl, rfl⟩
  halts h hrun := by
    rw [State.missExchange_third h, State.raise_run (s := s.missCounted) hrun (by decide), State.localFault_eq]
    exact ⟨rfl, rfl, rfl⟩
  latches h hst := by
    rw [State.missExchange_third h, State.raise_latches (s := s.missCounted) _ hst]
    exact ⟨rfl, rfl⟩

/-- Of the drive port a missed exchange reads the miss run only. -/
theorem State.Missed.of_setPort {p : Port} (h : (s.setPort p).Missed t) (hp : p.missRun = s.port.missRun) :
    s.Missed t where
  missRun := hp ▸ h.missRun
  lastExchange := h.lastExchange
  driveMiss := h.driveMiss
  kept := hp ▸ h.kept
  halts := hp ▸ h.halts
  latches := hp ▸ h.latches

/-- The start of the next exchange moves nothing that a miss has left. -/
theorem State.Missed.tryExchange (h : s.Missed t) : s.Missed t.tryExchange where
  missRun := by
    rw [State.tryExchange_port]
    exact h.missRun
  lastExchange := by
    rw [State.tryExchange_port]
    exact h.lastExchange
  driveMiss := by
    rw [State.tryExchange_link]
    exact h.driveMiss
  kept := by
    rw [State.tryExchange_link, State.tryExchange_halt]
    exact h.kept
  halts := by
    rw [State.tryExchange_link, State.tryExchange_halt, State.tryExchange_running]
    exact h.halts
  latches := by
    rw [State.tryExchange_link, State.tryExchange_halt]
    exact h.latches

end Sys2Proof.Machine

/-! SUPPORT. The judging of a feedback, and what a bad one leaves (R148, R149). -/

namespace Sys2Proof.Machine

variable {s : State} {fb : RawFeedback} {sent : Setpoint}

theorem exec_exchangeComplete (hrst : s.pins.rstn = true) (hflight : s.port.inFlight = some sent) :
    exec (.exchangeComplete fb) s = .next (s.judge sent fb).tryExchange := by
  refine congrArg Host.Outcome.next ((if_pos hrst).trans ?_)
  rw [hflight]

theorem driveStatusOf_absent {b : Byte} (hok : b ≠ 0x5A) (hfault : b ≠ 0xA5) : driveStatusOf b = none :=
  (if_neg hok).trans (if_neg hfault)

theorem driveStatusOf_present {b : Byte} (h : b = 0x5A ∨ b = 0xA5) :
    driveStatusOf b = some (if b = 0xA5 then .fault else .ok) := by
  rcases h with rfl | rfl <;> rfl

/-- A feedback that is absent or answers another record is a bad one. -/
theorem State.judge_bad (h : (fb.status ≠ 0x5A ∧ fb.status ≠ 0xA5) ∨ fb.echo ≠ sent.sequence) :
    s.judge sent fb = s.badFeedback := by
  unfold State.judge
  rcases h with ⟨hok, hfault⟩ | hecho
  · rw [driveStatusOf_absent hok hfault]
  · split
    · rfl
    · exact if_neg hecho

theorem State.judge_valid (h : fb.status = 0x5A ∨ fb.status = 0xA5) (hecho : fb.echo = sent.sequence) :
    s.judge sent fb = s.validFeedback (if fb.status = 0xA5 then .fault else .ok) sent fb := by
  rw [State.judge, driveStatusOf_present h]
  exact if_pos hecho

theorem State.badFeedback_missed : s.Missed s.badFeedback :=
  State.missExchange_missed.of_setPort rfl

theorem State.badFeedback_port : s.badFeedback.port =
    { s.port with inFlight := none, lastExchange := .missed, missRun := min (s.port.missRun + 1) 255 } :=
  State.missExchange_port

theorem State.badFeedback_pins : s.badFeedback.pins = s.pins := State.missExchange_frame.2.1

/-- A bad feedback that raises nothing moves the drive port and DRIVE_MISS only. -/
theorem State.badFeedback_kept (h : s.port.missRun ≠ 2) :
    s.badFeedback.tryExchange = (s.setPort s.badFeedback.tryExchange.port).countDriveMiss := by
  have hkept : s.badFeedback = (s.setPort { s.port with inFlight := none }).missCounted :=
    State.missExchange_kept (.inl h)
  rw [State.tryExchange_eq, hkept]
  rfl

/-- Settles O44: the missed exchange of the bad feedback, then the exchange of a waiting record. -/
theorem badFeedbackIsAMiss : Obligations.BadFeedbackIsAMiss := by
  intro fb sent s hrst hflight hbad
  have hexec := exec_exchangeComplete (fb := fb) hrst hflight
  rw [State.judge_bad hbad] at hexec
  have hmissed := State.badFeedback_missed.tryExchange (s := s)
  refine ⟨_, hexec, ⟨fun r hr hready => ?_, fun hwait => ?_⟩, hmissed.driveMiss,
    fun h => ⟨(hmissed.kept (.inl h)).1, State.badFeedback_kept h⟩,
    fun h hrun => ?_, fun h hst => (hmissed.latches h hst).1, fun _ hst => (hmissed.kept (.inr hst)).1⟩
  · rw [State.tryExchange_starts (p := r) (by rwa [State.badFeedback_port]) (by rw [State.badFeedback_port])
      (by rwa [State.badFeedback_pins]), State.setPort_port, State.badFeedback_port]
  · rw [State.tryExchange_waits (by rw [State.badFeedback_port, State.badFeedback_pins]; tauto),
      State.badFeedback_port]
  · obtain ⟨hhalt, hslot, -⟩ := hmissed.halts h hrun
    exact ⟨hhalt, hslot⟩

end Sys2Proof.Machine

/-! SUPPORT. What a handover leaves, which state an expiry and a configuration exchange interval hand over from, and the level
of the DRDY pin (R75, R78, R146, R147, R149, R154). -/

namespace Sys2Proof.Machine

variable {s t u : State} {r : Setpoint}

/-! A handover (R146). -/

/-- The record of a handover over `s`, under the sequence that is next. -/
def State.handedRecord (s : State) (position velocity : Int) (enable halting : Bool) : Setpoint :=
  { sequence := s.port.nextSequence, position := position, velocity := velocity, enable := enable, halting := halting }

/-- What the handover of record `r` over `s` leaves: the record in flight or waiting, and a replaced one missed. -/
structure State.HandedOver (s : State) (r : Setpoint) (t : State) : Prop where
  sequence : t.port.nextSequence = s.port.nextSequence + 1
  starts : s.port.inFlight = none → s.pins.drdy = true → t.port.inFlight = some r ∧ t.port.pendingRecord = none
  waits : s.port.inFlight.isSome = true ∨ s.pins.drdy = false →
    t.port.pendingRecord = some r ∧ t.port.inFlight = s.port.inFlight
  fresh : s.port.pendingRecord = none →
    t.port.missRun = s.port.missRun ∧ t.port.lastExchange = s.port.lastExchange ∧ t = s.setPort t.port
  replaces : s.port.pendingRecord.isSome = true → s.Missed t

/-- Where the handed record waits with the pins and the record in flight of `s`, DRDY decides whether it starts. -/
theorem State.tryExchange_handed (hwaiting : u.port.pendingRecord = some r) (hflight : u.port.inFlight = s.port.inFlight)
    (hpins : u.pins = s.pins) :
    (s.port.inFlight = none → s.pins.drdy = true →
      u.tryExchange.port.inFlight = some r ∧ u.tryExchange.port.pendingRecord = none) ∧
    (s.port.inFlight.isSome = true ∨ s.pins.drdy = false →
      u.tryExchange.port.pendingRecord = some r ∧ u.tryExchange.port.inFlight = s.port.inFlight) := by
  rw [← hflight, ← hpins]
  refine ⟨fun hnone hready => ?_, fun hwait => ?_⟩
  · rw [State.tryExchange_starts hwaiting hnone hready]
    exact ⟨rfl, rfl⟩
  · rw [State.tryExchange_waits (.inr hwait)]
    exact ⟨hwaiting, rfl⟩

theorem State.handOver_handedOver (position velocity : Int) (enable halting : Bool) :
    s.HandedOver (s.handedRecord position velocity enable halting) (s.handOver position velocity enable halting) := by
  have hsequence := (State.handOver_record (s := s) position velocity enable halting).2
  cases hp : s.port.pendingRecord with
  | none =>
    rw [State.handOver_fresh _ _ _ _ hp] at hsequence ⊢
    obtain ⟨hstarts, hwaits⟩ := State.tryExchange_handed (s := s)
      (u := s.setPort (s.port.handed position velocity enable halting)) rfl rfl rfl
    refine ⟨hsequence, hstarts, hwaits, fun _ => ⟨?_, ?_, ?_⟩, fun h => by simp [hp] at h⟩
    · rw [State.tryExchange_port]
      rfl
    · rw [State.tryExchange_port]
      rfl
    · exact State.tryExchange_eq
  | some q =>
    have hsome : s.port.pendingRecord.isSome = true := by rw [hp]; rfl
    rw [State.handOver_replaces _ _ _ _ hsome] at hsequence ⊢
    obtain ⟨hstarts, hwaits⟩ := State.tryExchange_handed (s := s)
      (r := s.handedRecord position velocity enable halting)
      (u := (s.setPort (s.port.handed position velocity enable halting)).missExchange)
      (by rw [State.missExchange_port]; rfl) (by rw [State.missExchange_port]; rfl) State.missExchange_frame.2.1
    have hmissed : s.Missed (s.setPort (s.port.handed position velocity enable halting)).missExchange :=
      State.missExchange_missed.of_setPort rfl
    exact ⟨hsequence, hstarts, hwaits, fun h => by simp [hp] at h, fun _ => hmissed.tryExchange⟩

/-! The state that hands over, at an expiry and at a configuration exchange interval. -/

/-- `u` is the state in which an event over `s` hands over: of all that a handover reads and moves only HALTING may have
become HALTED (R133). -/
structure State.HandsFor (u s : State) : Prop where
  sequence : u.port.nextSequence = s.port.nextSequence
  waiting : u.port.pendingRecord = s.port.pendingRecord
  inFlight : u.port.inFlight = s.port.inFlight
  missRun : u.port.missRun = s.port.missRun
  lastExchange : u.port.lastExchange = s.port.lastExchange
  pins : u.pins = s.pins
  own : u.own = s.own
  causes : u.halt.causes = s.halt.causes
  epoch : u.halt.epoch = s.halt.epoch
  record : u.halt.record = s.halt.record
  station : u.halt.station = s.halt.station ∨ s.halt.station = .halting ∧ u.halt.station = .halted
  haltSlot : u.link.haltSlot = s.link.haltSlot
  driveMiss : u.link.counters.driveMiss = s.link.counters.driveMiss

/-- An expiry hands over from the computed state with its report, in a new period. -/
def State.handingExpiry (s : State) : State := (s.computed.lostReport s.reportDue).newPeriod

/-- The report of an expiry changes the state slot only. -/
theorem State.lostReport_eq (due : Bool) : s.lostReport due =
    s.setLink { s.link with stateSlot := (s.lostReport due).link.stateSlot } := by
  cases due <;> rfl

theorem State.handingExpiry_eq : ∃ slot, s.handingExpiry =
    (s.computed.setLink { s.computed.link with stateSlot := slot }).setPort
      { s.computed.port with validSinceExpiry := false } := by
  refine ⟨(s.computed.lostReport s.reportDue).link.stateSlot, ?_⟩
  rw [State.handingExpiry, State.lostReport_eq]
  rfl

theorem State.handingExpiry_handsFor : s.handingExpiry.HandsFor s := by
  obtain ⟨slot, heq⟩ := State.handingExpiry_eq (s := s)
  obtain ⟨-, hpins, -, -, -, -, -, hstart, hcauses, hepoch, hrecord, -⟩ :=
    State.computeExpiry_frame (s := s.ageExpiry) s.stickSupply
  obtain ⟨hslot, hmiss⟩ := State.computed_link (s := s)
  have hport := State.computed_port (s := s)
  rw [heq]
  exact
    { sequence := (congrArg Port.nextSequence hport :)
      waiting := (congrArg Port.pendingRecord hport :)
      inFlight := (congrArg Port.inFlight hport :)
      missRun := (congrArg Port.missRun hport :)
      lastExchange := (congrArg Port.lastExchange hport :)
      pins := hpins.trans State.ageExpiry_pins
      own := congrArg Start.station (hstart.trans State.ageExpiry_start)
      causes := hcauses.trans (congrArg Halt.causes State.ageExpiry_halt)
      epoch := hepoch.trans (congrArg Halt.epoch State.ageExpiry_halt)
      record := hrecord.trans (congrArg Halt.record State.ageExpiry_halt)
      station := State.computed_station
      haltSlot := hslot
      driveMiss := hmiss }

theorem State.setPeers_handsFor (p : Peers) : (s.setPeers p).HandsFor s :=
  ⟨rfl, rfl, rfl, rfl, rfl, rfl, rfl, rfl, rfl, rfl, .inl rfl, rfl, rfl⟩

/-- The halt flag of a handed record is that of the station state before the expiry. -/
theorem State.handingExpiry_halting :
    (s.handingExpiry.halt.station = .halting || s.handingExpiry.halt.station = .halted) =
      decide (s.halt.station = .halting ∨ s.halt.station = .halted) := by
  obtain ⟨slot, heq⟩ := State.handingExpiry_eq (s := s)
  rw [heq, ← Bool.decide_or]
  exact decide_eq_decide.mpr State.computed_halting_iff

/-- The event that hands over at a station in any state: an expiry outside CONFIG and the configuration exchange interval in
it (R75, R78). -/
theorem State.handover_event (hrst : s.pins.rstn = true) : ∃ u : State, ∃ position velocity enable halting,
    exec (if s.halt.station = .config then .configExchangeInterval else .controlPeriodExpiry) s =
      .next (u.handOver position velocity enable halting) ∧
    u.HandsFor s ∧
    (s.halt.station ≠ .config → position = roundAuCapped u.blend.x ∧ velocity = u.blend.v ∧ enable = true ∧
      halting = decide (s.halt.station = .halting ∨ s.halt.station = .halted)) ∧
    (s.halt.station = .config → position = (if s.port.feedbackSeen then s.port.measured else 0) ∧ velocity = 0 ∧
      enable = false ∧ halting = false) := by
  by_cases hst : s.halt.station = .config
  · rw [if_pos hst]
    exact ⟨s.setPeers s.peers.older, _, _, _, _, congrArg Host.Outcome.next (if_pos ⟨hrst, hst⟩),
      State.setPeers_handsFor _, fun h => absurd hst h, fun _ => ⟨rfl, rfl, rfl, rfl⟩⟩
  · rw [if_neg hst]
    exact ⟨s.handingExpiry, _, _, _, _, exec_controlPeriodExpiry (State.timerRuns_outside hrst hst),
      State.handingExpiry_handsFor, fun _ => ⟨rfl, rfl, rfl, State.handingExpiry_halting⟩, fun h => absurd h hst⟩

/-! The level of the DRDY pin (R146, R147). -/

theorem exec_drdyRise (hrst : s.pins.rstn = true) :
    exec .drdyRise s = .next (s.setPins { s.pins with drdy := true }).tryExchange :=
  congrArg Host.Outcome.next (if_pos hrst)

theorem exec_drdyRise_starts (hrst : s.pins.rstn = true) (hr : s.port.pendingRecord = some r)
    (hnone : s.port.inFlight = none) : exec .drdyRise s = .next ((s.setPins { s.pins with drdy := true }).setPort
      { s.port with pendingRecord := none, inFlight := some r }) :=
  (exec_drdyRise hrst).trans
    (congrArg Host.Outcome.next (State.tryExchange_starts (s := s.setPins { s.pins with drdy := true }) hr hnone rfl))

/-- A rising DRDY starts nothing while RSTN is low, where no record waits, and where an exchange is under way. -/
theorem exec_drdyRise_pin (h : s.pins.rstn = false ∨ s.port.pendingRecord = none ∨ s.port.inFlight.isSome = true) :
    exec .drdyRise s = .next (s.setPins { s.pins with drdy := true }) := by
  cases hrst : s.pins.rstn with
  | false => exact congrArg Host.Outcome.next (if_neg (by simp [hrst]))
  | true =>
    have hport := h.resolve_left (by simp [hrst])
    exact (exec_drdyRise hrst).trans (congrArg Host.Outcome.next (State.tryExchange_waits (hport.imp id .inl)))

/-! The obligation. -/

/-- What a miss leaves of halt control, over a state that hands over for `s`. -/
theorem State.HandsFor.misses (hu : u.HandsFor s) (hm : u.Missed t) :
    t.port.missRun = min (s.port.missRun + 1) 255 ∧
    t.link.counters.driveMiss = min (s.link.counters.driveMiss + 1) 65535 ∧
    (s.port.missRun ≠ 2 ∨ s.halt.station = .config →
      t.halt.causes = s.halt.causes ∧ t.halt.record = s.halt.record ∧ t.link.haltSlot = s.link.haltSlot) ∧
    (s.port.missRun = 2 → s.halt.station = .run →
      t.halt = { station := .halting, causes := s.halt.causes ||| causeDriveLost, epoch := s.halt.epoch,
                 record := some { origin := s.own, entryCauses := causeDriveLost, originCauses := causeDriveLost,
                                  entryEpoch := s.halt.epoch } } ∧
      t.link.haltSlot = some { origin := s.own, causes := causeDriveLost, epoch := s.halt.epoch } ∧
      t.running = RunningSlot.idle) ∧
    (s.port.missRun = 2 → s.halt.station = .halting ∨ s.halt.station = .halted →
      t.halt.causes = s.halt.causes ||| causeDriveLost ∧ t.halt.record = s.halt.record ∧
      t.link.haltSlot = s.link.haltSlot) := by
  obtain ⟨hrun, -, hmiss, hkept, hhalts, hlatches⟩ := hm
  rw [hu.missRun] at hrun hkept hhalts hlatches
  rw [hu.driveMiss] at hmiss
  rw [hu.causes, hu.epoch, hu.own] at hhalts
  rw [hu.haltSlot] at hkept hlatches
  have hstays : s.halt.station = .run ∨ s.halt.station = .config → u.halt.station = s.halt.station := fun h =>
    hu.station.resolve_right fun hhalting => by simp [hhalting.1] at h
  have hhalting : s.halt.station = .halting ∨ s.halt.station = .halted →
      u.halt.station = .halting ∨ u.halt.station = .halted := fun h => by
    rcases hu.station with heq | ⟨-, heq⟩
    · rwa [heq]
    · exact .inr heq
  refine ⟨hrun, hmiss, fun h => ?_, fun h hst => hhalts h ((hstays (.inl hst)).trans hst), fun h hst => ?_⟩
  · obtain ⟨hhalt, hslot⟩ := hkept (h.imp id fun hst => (hstays (.inr hst)).trans hst)
    rw [hhalt]
    exact ⟨hu.causes, hu.record, hslot⟩
  · obtain ⟨hhalt, hslot⟩ := hlatches h (hhalting hst)
    rw [hhalt]
    exact ⟨congrArg (· ||| causeDriveLost) hu.causes, hu.record, hslot⟩

/-- Settles O43: a handover from any state, then the one at an expiry or interval from the state that hands over, then the
DRDY pin. -/
theorem handoverAndDriveReady : Obligations.HandoverAndDriveReady := by
  refine ⟨?_, fun s hrst => ?_, fun s => ⟨fun _ => exec_drdyRise_starts, exec_drdyRise_pin, rfl⟩⟩
  · intro position velocity enable halting s r t
    obtain ⟨hsequence, hstarts, hwaits, hfresh, hreplaces⟩ := s.handOver_handedOver position velocity enable halting
    refine ⟨hsequence, hstarts, hwaits, hfresh, fun hsome => ?_⟩
    obtain ⟨hrun, hlast, hmiss, hkept, hhalts, hlatches⟩ := hreplaces hsome
    have hthird : min (s.port.missRun + 1) 255 = 3 ↔ s.port.missRun = 2 := satAdd_eq_3 _
    rw [ne_eq, hthird]
    refine ⟨hrun, hlast, hmiss, fun h => (hkept (.inl h)).1, fun h hst => ?_, hlatches, fun _ hst => hkept (.inr hst)⟩
    obtain ⟨hhalt, hslot, -⟩ := hhalts h hst
    exact ⟨congrArg Halt.station hhalt, congrArg Halt.causes hhalt, hslot⟩
  · obtain ⟨u, position, velocity, enable, halting, hexec, hu, hsetpoint, hhold⟩ := State.handover_event hrst
    obtain ⟨-, -, -, -, -, -, -, hx, hv, -⟩ := u.handOver_frame position velocity enable halting
    obtain ⟨hsequence, hstarts, hwaits, hfresh, hreplaces⟩ := u.handOver_handedOver position velocity enable halting
    generalize u.handOver position velocity enable halting = t at hexec hx hv hsequence hstarts hwaits hfresh hreplaces
    rw [hu.inFlight, hu.pins] at hstarts hwaits
    rw [hu.waiting] at hfresh hreplaces
    rw [hu.sequence] at hsequence
    refine ⟨t, u.handedRecord position velocity enable halting, hexec, fun hst => ?_, fun hst => ?_, hsequence, hstarts,
      hwaits, fun hnone => ?_, fun hsome => ?_, fun hquiet => ?_, fun hsome => (hu.misses (hreplaces hsome)).2.2.2.1,
      fun hsome => (hu.misses (hreplaces hsome)).2.2.2.2⟩
    · obtain ⟨rfl, rfl, rfl, rfl⟩ := hsetpoint hst
      rw [State.handedRecord, hu.sequence, hx, hv]
      rfl
    · obtain ⟨rfl, rfl, rfl, rfl⟩ := hhold hst
      rw [State.handedRecord, hu.sequence]
    · obtain ⟨hrun, hlast, heq⟩ := hfresh hnone
      exact ⟨hrun.trans hu.missRun, hlast.trans hu.lastExchange, by rw [heq]; exact hu.driveMiss⟩
    · have hm := hreplaces hsome
      obtain ⟨hrun, hmiss, -⟩ := hu.misses hm
      exact ⟨hrun, hm.lastExchange, hmiss⟩
    · cases hp : s.port.pendingRecord with
      | none =>
        obtain ⟨-, -, heq⟩ := hfresh hp
        rw [heq]
        exact ⟨hu.causes, hu.record, hu.haltSlot⟩
      | some q =>
        obtain ⟨-, -, hkept, -⟩ := hu.misses (hreplaces (by rw [hp]; rfl))
        exact hkept (hquiet.resolve_left (by simp [hp]))

end Sys2Proof.Machine

/-! SUPPORT. A valid feedback outside CONFIG: the causes it raises, the report it prompts and the own trigger's evaluation of
it (R115, R148, R150 to R153, R167). -/

namespace Sys2Proof.Machine

variable {s t : State} {fb : RawFeedback} {sent : Setpoint}

/-! The causes (R150 to R153). -/

theorem Port.limitEdge_iff (p : Port) : p.limitEdge fb = true ↔
    (fb.limits.getLsbD 0 = true ∧ p.posLimit = false) ∨ (fb.limits.getLsbD 1 = true ∧ p.negLimit = false) := by
  simp [Port.limitEdge]

/-- With fe_count at least 1 the run becomes fe_count only by a step of an error above the limit. -/
theorem Port.followingRaised_iff (p : Port) {feLimit feCount err : Nat} (hcount : 1 ≤ feCount) :
    p.followingRaised feLimit feCount err = true ↔
      feLimit < err ∧ p.followingRun ≠ feCount ∧ min (p.followingRun + 1) 255 = feCount := by
  rw [Port.followingRaised, Bool.and_eq_true, decide_eq_true_eq, decide_eq_true_eq, Port.nextRun]
  by_cases herr : feLimit < err
  · rw [if_pos herr, satAdd]
    tauto
  · rw [if_neg herr]
    omega

theorem State.feedbackCauses_eq (hcount : 1 ≤ s.record.feCount) :
    s.feedbackCauses (if fb.status = 0xA5 then .fault else .ok) sent fb = s.feedbackRaises sent fb := by
  have hfault : (if fb.status = 0xA5 then DriveStatus.fault else .ok) = .fault ↔ fb.status = 0xA5 := by
    split <;> simp_all
  simp only [State.feedbackCauses, State.feedbackRaises, causeIf, Port.limitEdge_iff, decide_eq_true_eq, hfault,
    Bool.and_eq_true, Port.followingRaised_iff _ hcount, followingError]

/-! The report (R115, R150). -/

/-- The own report goes to the trigger as a report of any other station does. -/
theorem State.reportFeedback_eq : s.reportFeedback = (s.placeState s.makeReport).watchReport s.own s.makeReport := rfl

/-- An evaluation leaves the state slot as it stands. -/
theorem State.watchReport_stateSlot (n : Station) (r : Report) :
    (s.watchReport n r).link.stateSlot = s.link.stateSlot := by
  unfold State.watchReport State.evaluateTrigger State.placeCue
  repeat' split
  all_goals rfl

theorem State.placeCue_placeState (f : CueFrame) (q : Report) :
    (s.placeState q).placeCue f = (s.placeCue f).placeState q := by
  by_cases hroom : s.link.cueList.length < 4
  · rw [State.placeCue_room hroom, State.placeCue_room (s := s.placeState q) hroom]
    rfl
  · rw [State.placeCue_full hroom, State.placeCue_full (s := s.placeState q) hroom]
    rfl

/-- The trigger evaluates alike before and after a report is placed. -/
theorem State.evaluateTrigger_placeState (reported : StationState) (p : Int) (q : Report) :
    (s.placeState q).evaluateTrigger reported p = (s.evaluateTrigger reported p).placeState q := by
  by_cases heval : s.halt.station = .run ∧ reported ≠ .config
  · obtain ⟨hrun, hrep⟩ := heval
    cases hk : s.trigger.state with
    | disarmed =>
      rw [State.evaluateTrigger_off (.inr hk), State.evaluateTrigger_off (s := s.placeState q) (.inr hk)]
    | arming =>
      rw [State.evaluateTrigger_arming p hrun hrep hk, State.evaluateTrigger_arming (s := s.placeState q) p hrun hrep hk,
        apply_ite (State.placeState q)]
      rfl
    | armed =>
      rw [State.evaluateTrigger_armed p hrun hrep hk, State.evaluateTrigger_armed (s := s.placeState q) p hrun hrep hk,
        apply_ite (State.placeState q), State.placeCue_placeState]
      rfl
  · exact (if_neg heval).trans (congrArg (State.placeState q) (if_neg heval)).symm

theorem State.watchReport_placeState (n : Station) (r q : Report) :
    (s.placeState q).watchReport n r = (s.watchReport n r).placeState q := by
  by_cases hn : s.trigger.watched = n
  · rw [State.watchReport_watched n r hn, State.watchReport_watched (s := s.placeState q) n r hn,
      State.evaluateTrigger_placeState]
  · rw [State.watchReport_other n r hn, State.watchReport_other (s := s.placeState q) n r hn]

theorem State.watchReport_setPort (n : Station) (r : Report) (p : Port) :
    (s.setPort p).watchReport n r = (s.watchReport n r).setPort p :=
  State.watchReport_comm n r (State.setPort · p) (fun _ _ => rfl) rfl rfl rfl

/-- The report of a feedback moves the link and the trigger record only. -/
theorem State.reportFeedback_frame :
    s.reportFeedback.pins = s.pins ∧ s.reportFeedback.next = s.next ∧ s.reportFeedback.running = s.running ∧
    s.reportFeedback.blend = s.blend ∧ s.reportFeedback.stick = s.stick ∧ s.reportFeedback.peers = s.peers ∧
    s.reportFeedback.mark = s.mark ∧ s.reportFeedback.halt = s.halt ∧ s.reportFeedback.port = s.port ∧
    s.reportFeedback.start = s.start := by
  rw [State.reportFeedback_eq, State.watchReport_eq]
  exact ⟨rfl, rfl, rfl, rfl, rfl, rfl, rfl, rfl, rfl, rfl⟩

theorem State.reportFeedback_stateSlot : s.reportFeedback.link.stateSlot = some s.makeReport :=
  State.watchReport_stateSlot (s := s.placeState s.makeReport) _ _

theorem State.reportFeedback_haltSlot : s.reportFeedback.link.haltSlot = s.link.haltSlot :=
  State.watchReport_haltSlot (s := s.placeState s.makeReport) _ _

theorem State.reportFeedback_outside (h : s.halt.station ≠ .run) : s.reportFeedback = s.placeState s.makeReport :=
  State.watchReport_outside (s := s.placeState s.makeReport) _ _ h

/-! The feedback whole, outside CONFIG (R150). -/

theorem State.leaveConfig_outside (h : s.halt.station ≠ .config) : s.leaveConfig = s := if_neg fun hc => h hc.1

/-- No raised cause leads into CONFIG. -/
theorem State.raise_notConfig (c : Causes) (h : s.halt.station ≠ .config) : (s.raise c).halt.station ≠ .config := by
  rcases State.raise_cases (s := s) c with heq | ⟨-, -, heq⟩ | ⟨-, d, -, heq⟩ <;> rw [heq]
  · exact h
  · rw [State.localFault_eq]
    nofun
  · exact h

/-- The port with the feedback stored outside CONFIG. -/
def State.storedPort (s : State) (sent : Setpoint) (fb : RawFeedback) : Port :=
  s.port.storeFeedback false s.record.feLimit (if fb.status = 0xA5 then .fault else .ok) sent fb

/-- The state with the feedback stored and its causes raised, before its report. -/
def State.raisedFeedback (s : State) (sent : Setpoint) (fb : RawFeedback) : State :=
  (s.setPort (s.storedPort sent fb)).raise (s.feedbackRaises sent fb)

theorem exec_validFeedback (hrst : s.pins.rstn = true) (hflight : s.port.inFlight = some sent)
    (hstatus : fb.status = 0x5A ∨ fb.status = 0xA5) (hecho : fb.echo = sent.sequence) (hst : s.halt.station ≠ .config)
    (hcount : 1 ≤ s.record.feCount) :
    exec (.exchangeComplete fb) s = .next (s.raisedFeedback sent fb).reportFeedback.tryExchange := by
  rw [exec_exchangeComplete hrst hflight, State.judge_valid hstatus hecho, State.validFeedback,
    State.feedbackCauses_eq hcount, decide_eq_false hst]
  have hraised : (s.raisedFeedback sent fb).leaveConfig = s.raisedFeedback sent fb :=
    State.leaveConfig_outside (State.raise_notConfig _ hst)
  exact congrArg (fun u : State => Host.Outcome.next u.reportFeedback.tryExchange) hraised

theorem State.raisedFeedback_quiet (h : s.feedbackRaises sent fb = 0) :
    s.raisedFeedback sent fb = s.setPort (s.storedPort sent fb) := by
  rw [State.raisedFeedback, h]
  exact State.raise_none

theorem State.raisedFeedback_run (h : s.feedbackRaises sent fb ≠ 0) (hrun : s.halt.station = .run) :
    s.raisedFeedback sent fb = (s.setPort (s.storedPort sent fb)).localFault (s.feedbackRaises sent fb) :=
  State.raise_run hrun h

theorem State.raisedFeedback_outside (hrun : s.halt.station ≠ .run) (hst : s.halt.station ≠ .config) :
    s.raisedFeedback sent fb = (s.setPort (s.storedPort sent fb)).latch (s.feedbackRaises sent fb) := by
  refine State.raise_latches _ ?_
  show s.halt.station = .halting ∨ s.halt.station = .halted
  cases h : s.halt.station <;> simp_all

/-- What the raised causes leave of the other blocks. -/
theorem State.raisedFeedback_frame :
    (s.raisedFeedback sent fb).pins = s.pins ∧ (s.raisedFeedback sent fb).stick = s.stick ∧
    (s.raisedFeedback sent fb).peers = s.peers ∧ (s.raisedFeedback sent fb).mark = s.mark ∧
    (s.raisedFeedback sent fb).port = s.storedPort sent fb ∧ (s.raisedFeedback sent fb).start = s.start ∧
    (s.raisedFeedback sent fb).blend.x = s.blend.x ∧ (s.raisedFeedback sent fb).blend.v = s.blend.v := by
  simp [State.raisedFeedback]

/-- A feedback that raises nothing leaves halt control, the cue slots and the HALT slot. -/
theorem State.raisedFeedback_kept (h : s.feedbackRaises sent fb = 0) :
    (s.raisedFeedback sent fb).halt = s.halt ∧ (s.raisedFeedback sent fb).running = s.running ∧
    (s.raisedFeedback sent fb).next = s.next ∧ (s.raisedFeedback sent fb).link.haltSlot = s.link.haltSlot := by
  rw [State.raisedFeedback_quiet h]
  exact ⟨rfl, rfl, rfl, rfl⟩

/-- In RUN the causes of a feedback are one local fault (R129). -/
theorem State.raisedFeedback_halts (h : s.feedbackRaises sent fb ≠ 0) (hrun : s.halt.station = .run) :
    (s.raisedFeedback sent fb).halt =
      { station := .halting, causes := s.halt.causes ||| s.feedbackRaises sent fb, epoch := s.halt.epoch,
        record := some { origin := s.own, entryCauses := s.feedbackRaises sent fb,
                         originCauses := s.feedbackRaises sent fb, entryEpoch := s.halt.epoch } } ∧
    (s.raisedFeedback sent fb).link.haltSlot =
      some { origin := s.own, causes := s.feedbackRaises sent fb, epoch := s.halt.epoch } ∧
    (s.raisedFeedback sent fb).running = RunningSlot.idle := by
  rw [State.raisedFeedback_run h hrun, State.localFault_eq]
  exact ⟨rfl, rfl, rfl⟩

/-! The own trigger at a valid feedback (R115, R119). -/

/-- Where the causes enter no HALTING the own trigger evaluates the feedback as it would have before it was stored. -/
theorem State.reportFeedback_evaluates (hst : s.halt.station ≠ .config)
    (h : s.feedbackRaises sent fb = 0 ∨ s.halt.station ≠ .run) :
    let t := (s.raisedFeedback sent fb).reportFeedback
    let u := s.watchReport s.own (s.setPort (s.storedPort sent fb)).makeReport
    t.trigger = u.trigger ∧ t.link.cueList = u.link.cueList ∧
      t.link.counters.outDrop = u.link.counters.outDrop := by
  intro t u
  by_cases hrun : s.halt.station = .run
  · have ht : t = (u.setPort (s.storedPort sent fb)).placeState (s.setPort (s.storedPort sent fb)).makeReport := by
      show (s.raisedFeedback sent fb).reportFeedback = _
      rw [State.raisedFeedback_quiet (h.resolve_right fun hn => hn hrun), State.reportFeedback_eq,
        State.watchReport_placeState, State.watchReport_setPort]
      rfl
    rw [ht]
    exact ⟨rfl, rfl, rfl⟩
  · have hu : u = s := State.watchReport_outside _ _ hrun
    have ht : t = (s.raisedFeedback sent fb).placeState (s.raisedFeedback sent fb).makeReport :=
      State.reportFeedback_outside (by rw [State.raisedFeedback_outside hrun hst]; exact hrun)
    rw [ht, hu, State.raisedFeedback_outside hrun hst]
    exact ⟨rfl, rfl, rfl⟩

/-- Where the causes enter HALTING the trigger is disarmed and evaluates nothing. -/
theorem State.reportFeedback_disarmed (h : s.feedbackRaises sent fb ≠ 0) (hrun : s.halt.station = .run) :
    let t := (s.raisedFeedback sent fb).reportFeedback
    t.trigger = { s.trigger with state := .disarmed } ∧ t.link.cueList = s.link.cueList ∧
      t.link.counters.outDrop = s.link.counters.outDrop := by
  dsimp only
  have hhalting : (s.raisedFeedback sent fb).halt.station ≠ .run := by
    rw [(State.raisedFeedback_halts h hrun).1]
    nofun
  have hlist : (s.raisedFeedback sent fb).link.cueList = s.link.cueList := (State.raise_list _).1
  have hdrop : (s.raisedFeedback sent fb).link.counters.outDrop = s.link.counters.outDrop := (State.raise_counters _).2
  have htrigger : (s.raisedFeedback sent fb).trigger = { s.trigger with state := .disarmed } := by
    rw [State.raisedFeedback_run h hrun, State.localFault_eq]
    simp
  rw [State.reportFeedback_outside hhalting]
  exact ⟨htrigger, hlist, hdrop⟩

/-- What the completed exchange leaves of the port: the feedback stored, and the start of a waiting record's exchange. -/
theorem State.feedback_exchange : ∃ waiting flight,
    (s.raisedFeedback sent fb).reportFeedback.tryExchange.port =
      { s.storedPort sent fb with pendingRecord := waiting, inFlight := flight } ∧
    (∀ q, s.port.pendingRecord = some q → s.pins.drdy = true → flight = some q ∧ waiting = none) ∧
    (s.port.pendingRecord = none ∨ s.pins.drdy = false → flight = none ∧ waiting = s.port.pendingRecord) := by
  obtain ⟨hpins, -, -, -, -, -, -, -, hport, -⟩ := State.reportFeedback_frame (s := s.raisedFeedback sent fb)
  obtain ⟨hpins', -, -, -, hport', -⟩ := State.raisedFeedback_frame (s := s) (sent := sent) (fb := fb)
  rw [hpins'] at hpins
  rw [hport'] at hport
  generalize (s.raisedFeedback sent fb).reportFeedback = v at hpins hport ⊢
  have hnone : v.port.inFlight = none := congrArg Port.inFlight hport
  have hwaiting : v.port.pendingRecord = s.port.pendingRecord := (congrArg Port.pendingRecord hport :)
  refine ⟨_, _, hport ▸ State.tryExchange_port, fun q hq hready => ?_, fun hwait => ?_⟩
  · rw [State.tryExchange_starts (hwaiting.trans hq) hnone (hpins ▸ hready)]
    exact ⟨rfl, rfl⟩
  · rw [← hwaiting, ← hpins] at hwait
    rw [State.tryExchange_waits (hwait.imp id .inr)]
    exact ⟨hnone, hwaiting⟩

/-- Settles O45: the feedback stored, its causes raised, and the report of what they left. -/
theorem validFeedbackIsStored : Obligations.ValidFeedbackIsStored := by
  intro fb sent s hrst hflight hstatus hecho hst hcount
  refine ⟨_, (s.raisedFeedback sent fb).makeReport, exec_validFeedback hrst hflight hstatus hecho hst hcount, ?_⟩
  obtain ⟨waiting, flight, hport, hstarts, hwaits⟩ := State.feedback_exchange (s := s) (sent := sent) (fb := fb)
  obtain ⟨-, hnext, hrunning, hblend, hstick, hpeers, hmark, hhalt, -, hstart⟩ :=
    State.reportFeedback_frame (s := s.raisedFeedback sent fb)
  obtain ⟨-, hstick', hpeers', hmark', hport', hstart', hx, hv⟩ :=
    State.raisedFeedback_frame (s := s) (sent := sent) (fb := fb)
  rw [hport, State.tryExchange_halt, State.tryExchange_running, State.tryExchange_next, State.tryExchange_link,
    State.tryExchange_trigger, State.tryExchange_blend, State.tryExchange_stick, State.tryExchange_peers,
    State.tryExchange_mark, State.tryExchange_start, hnext, hrunning, hblend, hstick, hpeers, hmark, hhalt, hstart,
    State.reportFeedback_haltSlot, State.reportFeedback_stateSlot]
  have hmeasured : (s.raisedFeedback sent fb).makeReport.measured = fb.measured.toInt := congrArg Port.measured hport'
  have hvelocity : (s.raisedFeedback sent fb).makeReport.velocity = s.blend.v :=
    (State.makeReport_velocity (s := s.raisedFeedback sent fb) (State.raise_notConfig _ hst)).trans hv
  refine ⟨rfl, rfl, rfl, rfl, rfl, rfl, rfl, rfl, rfl, rfl, hstarts, hwaits, State.raisedFeedback_kept,
    State.raisedFeedback_halts, fun hrun => ?_, rfl, rfl, rfl, rfl, hmeasured, hvelocity, rfl, rfl,
    ⟨s.watchReport s.own (s.setPort (s.storedPort sent fb)).makeReport, State.watchReport_watched _ _,
      State.watchReport_other _ _, State.reportFeedback_evaluates hst, State.reportFeedback_disarmed⟩,
    hx, hstick', hpeers', hmark', hstart'⟩
  rw [State.raisedFeedback_outside hrun hst]
  rfl

end Sys2Proof.Machine

/-! SUPPORT. Bursts on the line: the frames that a good one spells come from its key's sender, and what the receive
checker's test of a burst asks (R157 to R160). -/

namespace Sys2Proof.Machine

/-! A good burst spells a command that comes from the station of its key (R160, R168). -/

theorem decodeClass0_sender (n : Station) (kind : Byte) (p : List Byte) : (decodeClass0 n kind p).sender = some n := by
  unfold decodeClass0
  split_ifs <;> rfl

theorem decodeClass1_sender (n : Station) (kind : Byte) (p : List Byte) : (decodeClass1 n kind p).sender = some n := by
  unfold decodeClass1
  split_ifs <;> rfl

theorem decodeClass2_sender (n : Station) (kind : Byte) (p : List Byte) (first : Bool) :
    (decodeClass2 n kind p first).sender = some n := by
  unfold decodeClass2
  split_ifs <;> rfl

theorem decodeStartWrite_sender (h : ReqHeader) (a : List Byte) : (decodeStartWrite h a).sender = some h.sender := by
  unfold decodeStartWrite
  split_ifs <;> rfl

theorem decodeStatusRead_sender (own : Station) (h : ReqHeader) (a : List Byte) :
    (decodeStatusRead own h a).sender = some h.sender := by
  unfold decodeStatusRead
  split_ifs
  · rfl
  · split
    · split_ifs <;> rfl
    · rfl
  · rfl

theorem ite_sender {n : Station} {a b : Instr} {p : Prop} [Decidable p] (ha : a.sender = some n)
    (hb : b.sender = some n) : (if p then a else b).sender = some n := by
  split_ifs
  · exact ha
  · exact hb

theorem decodeRequest_sender (own straps : Station) (h : ReqHeader) (kind : Byte) (a : List Byte) :
    (decodeRequest own straps h kind a).sender = some h.sender := by
  unfold decodeRequest
  exact ite_sender rfl <| ite_sender (decodeStartWrite_sender h a) <| ite_sender rfl <|
    ite_sender (decodeStatusRead_sender own h a) <| ite_sender rfl <| ite_sender rfl <| ite_sender rfl <|
    ite_sender rfl <| ite_sender rfl <| ite_sender rfl <| ite_sender rfl <| ite_sender rfl <| ite_sender rfl <|
    ite_sender rfl <| ite_sender rfl <| ite_sender rfl rfl

theorem decodeClass3_sender (own straps n : Station) (kind : Byte) (p : List Byte) :
    (decodeClass3 own straps n kind p).sender = some n := by
  unfold decodeClass3
  split_ifs
  · rfl
  · exact decodeRequest_sender ..
  all_goals rfl

/-- Whatever a good arrival spells, it comes from the station its key names. -/
theorem decodeFrame_sender (own straps : Station) (first : Bool) (key kind : Byte) (p : List Byte) :
    (decodeFrame own straps first key kind p).sender = some (keySender key) := by
  unfold decodeFrame
  split
  · exact decodeClass0_sender ..
  · exact decodeClass1_sender ..
  · exact decodeClass2_sender ..
  · exact decodeClass3_sender ..
  · rfl

theorem decodeFrame_ne_badArrival (own straps : Station) (first : Bool) (key kind : Byte) (p : List Byte) :
    decodeFrame own straps first key kind p ≠ .badArrival := fun h =>
  nomatch (decodeFrame_sender own straps first key kind p).symm.trans (congrArg Instr.sender h)

/-! The test of a burst (R158, R159). -/

theorem length_eq_add_two_iff {α : Type} (l : List α) (n : Nat) :
    l.length = n + 2 ↔ ∃ payload hi lo, l = payload ++ [hi, lo] ∧ payload.length = n := by
  constructor
  · intro h
    obtain ⟨hi, lo, hend⟩ : ∃ hi lo, l.drop n = [hi, lo] := List.length_eq_two.mp (by rw [List.length_drop]; omega)
    exact ⟨l.take n, hi, lo, by rw [← hend, List.take_append_drop], by rw [List.length_take]; omega⟩
  · rintro ⟨payload, hi, lo, rfl, rfl⟩
    exact List.length_append

/-- The test splits what follows the length into the payload and the two bytes of the CRC received. -/
theorem burstGood_iff (key kind len : Byte) (rest : List Byte) : burstGood key kind len rest = true ↔
    ∃ (payload : List Byte) (hi lo : Byte), rest = payload ++ [hi, lo] ∧ len.toNat ≤ 64 ∧
      payload.length = len.toNat ∧ hi ++ lo = crc16 (key :: kind :: len :: payload) := by
  have hlen : (len ≤ 64) ↔ len.toNat ≤ 64 := BitVec.le_def
  simp only [burstGood, Bool.and_eq_true, decide_eq_true_eq, hlen, length_eq_add_two_iff]
  constructor
  · rintro ⟨⟨hle, payload, hi, lo, rfl, hp⟩, hcrc⟩
    rw [← hp, List.drop_left, List.take_left] at hcrc
    exact ⟨payload, hi, lo, rfl, hle, hp, hcrc⟩
  · rintro ⟨payload, hi, lo, rfl, hle, hp, hcrc⟩
    refine ⟨⟨hle, payload, hi, lo, rfl, hp⟩, ?_⟩
    rw [← hp, List.drop_left, List.take_left]
    exact hcrc

theorem decodeArrival_header (own straps : Station) (first : Bool) (d key kind len : Byte) (rest : List Byte) :
    decodeArrival own straps first (d :: key :: kind :: len :: rest) ≠ .badArrival ↔
      d = delimiter ∧ burstGood key kind len rest = true := by
  simp only [decodeArrival]
  split_ifs with hgood
  · exact iff_of_true (decodeFrame_ne_badArrival _ _ _ _ _ _) hgood
  · exact iff_of_false (not_not.mpr rfl) hgood

theorem decodeArrival_headless (own straps : Station) (first : Bool) {burst : List Byte}
    (h : ∀ d key kind len rest, burst ≠ d :: key :: kind :: len :: rest) :
    decodeArrival own straps first burst = .badArrival := by
  unfold decodeArrival
  split
  · exact absurd rfl (h _ _ _ _ _)
  · rfl

/-- Settles O10: a burst with a header is good where its test passes, and one without is bad. -/
theorem goodArrivalsAreRecognised : Obligations.GoodArrivalsAreRecognised := by
  intro own straps first burst
  constructor
  · intro hgood
    by_cases hheader : ∃ d key kind len rest, burst = d :: key :: kind :: len :: rest
    · obtain ⟨d, key, kind, len, rest, rfl⟩ := hheader
      obtain ⟨rfl, htest⟩ := (decodeArrival_header ..).mp hgood
      obtain ⟨payload, hi, lo, rfl, htail⟩ := (burstGood_iff ..).mp htest
      exact ⟨key, kind, len, hi, lo, payload, rfl, htail⟩
    · push Not at hheader
      exact absurd (decodeArrival_headless own straps first hheader) hgood
  · rintro ⟨key, kind, len, hi, lo, payload, rfl, htail⟩
    exact (decodeArrival_header ..).mpr ⟨rfl, (burstGood_iff ..).mpr ⟨payload, hi, lo, rfl, htail⟩⟩

end Sys2Proof.Machine

/-! SUPPORT. What an arrival leaves of the link interface: its counter and the error window (R158, R170); and the commands
that act on nothing while RSTN is low or the own frame is in flight (R158, R185). -/

namespace Sys2Proof.Machine

variable {s : State}

/-! A counted arrival (R158, R161, R170). -/

theorem State.countArrival_counters (bad : Bool) : (s.countArrival bad).link.counters =
    if bad then { s.link.counters with rxBad := satAdd 65535 s.link.counters.rxBad 1 }
    else { s.link.counters with rxGood := satAdd 65535 s.link.counters.rxGood 1 } := by
  obtain ⟨-, -, -, -, -, -, hcounters⟩ := Link.windowStep_frame
    (s.mapCounters fun c => if bad then { c with rxBad := satAdd 65535 c.rxBad 1 }
      else { c with rxGood := satAdd 65535 c.rxGood 1 }).link bad s.frozen s.record.windowSize s.record.badThreshold
  exact hcounters

/-- An arrival moves the counters, the error window and the offer, and nothing else. -/
theorem State.countArrival_eq (bad : Bool) : s.countArrival bad = s.setLink
    { s.link with
      counters := (s.countArrival bad).link.counters
      arrivals := (s.countArrival bad).link.arrivals
      badArrivals := (s.countArrival bad).link.badArrivals
      linkPoor := (s.countArrival bad).link.linkPoor
      offer := none } := by
  obtain ⟨hhalt, hcue, hstate, hreply, hflight⟩ := State.countArrival_list (s := s) bad
  dsimp only
  rw [← hhalt, ← hcue, ← hstate, ← hreply, ← hflight]
  rfl

/-- The error window ends at the arrival that reaches its size under a frozen record, and else counts on (R170). -/
theorem State.countArrival_windowAfter (bad : Bool) : s.windowAfter (s.countArrival bad) bad.toNat := by
  unfold State.windowAfter State.countArrival Link.windowStep
  dsimp only
  split
  · rename_i hends
    rw [if_pos (by exact hends)]
    exact ⟨rfl, rfl, rfl⟩
  · rename_i hruns
    rw [if_neg (by exact hruns)]
    exact ⟨rfl, rfl, rfl⟩

theorem State.countArrival_windowEnds (bad : Bool) (hfrozen : s.start.record.isSome = true)
    (hsize : s.record.windowSize ≤ min (s.link.arrivals + 1) 65535) :
    (s.countArrival bad).link.arrivals = 0 ∧ (s.countArrival bad).link.badArrivals = 0 ∧
    (s.countArrival bad).link.linkPoor =
      decide (s.record.badThreshold ≤ min (s.link.badArrivals + bad.toNat) 65535) := by
  have h := State.countArrival_windowAfter (s := s) bad
  rwa [State.windowAfter, if_pos ⟨hfrozen, hsize⟩] at h

/-! The part is deaf while RSTN is low or its own frame is in flight (R158, R185). -/

theorem State.deaf_of_reset (h : s.pins.rstn = false) : s.deaf = true := by simp [State.deaf, h]

theorem State.deaf_of_inFlight (h : s.link.inFlight.isSome = true) : s.deaf = true := by simp [State.deaf, h]

theorem State.not_deaf (hrst : s.pins.rstn = true) (hfree : s.link.inFlight = none) : s.deaf = false := by
  simp [State.deaf, hrst, hfree]

/-- A frame or request arrives as every other, but for a RESTART, which the own frame in flight does not shut out
(R166). -/
theorem exec_arrives {c : Instr} {n : Station} (hc : c.sender = some n) :
    (∃ act, exec c s = .next (s.arrive n act)) ∨ ∃ h args straps, c = .restart h args straps := by
  cases c
  case halt | resume | stick | load | seek | go | stop | hold | release | loopEnd | recStart | recStop | state |
      serviceReply | unknownKind | ident | startRecordWriteSection1 | startRecordWriteSection2 | statusRead |
      statusReadPeer | countersRead | presetOpen | keyframeWrite | presetClose | presetErase | presetEdit |
      directoryRead | keyframeRead | poolCompact | triggerArm | triggerDisarm | triggerRead | unknownRequestKind =>
    rw [← Option.some.inj hc]
    exact .inl ⟨_, rfl⟩
  case restart h args straps => exact .inr ⟨h, args, straps, rfl⟩
  all_goals exact nomatch hc

theorem execRestart_deaf {h : ReqHeader} {args : Sized Unit} {straps : Station} (hd : s.deafToRestart h = true) :
    exec (.restart h args straps) s = .next s := by
  show execRestart h args straps s = _
  rw [execRestart, State.arriveUnless, if_pos hd]

/-- A deaf part is deaf to a RESTART too, unless it is meant for this station and comes in time (R166, log 28). -/
theorem State.deafToRestart_of_deaf {h : ReqHeader} (hd : s.deaf = true) (hm : ¬ s.restartMeant h) :
    s.deafToRestart h = true := by
  unfold State.deafToRestart
  split
  · rename_i hown
    have hlow : s.pins.rstn ≠ true := fun hrst => hm ⟨hrst, hown.2, hown.1⟩
    simp [hlow]
  · exact hd

/-- No frame acts at a deaf part, but a RESTART meant for this station. -/
theorem exec_deaf {c : Instr} (hd : s.deaf = true) (hc : c.sender.isSome = true)
    (hm : ∀ h args straps, c = .restart h args straps → ¬ s.restartMeant h) : exec c s = .next s := by
  obtain ⟨n, hn⟩ := Option.isSome_iff_exists.mp hc
  rcases exec_arrives (s := s) hn with ⟨act, hexec⟩ | ⟨h, args, straps, rfl⟩
  · rw [hexec, State.arrive_deaf hd]
  · exact execRestart_deaf (State.deafToRestart_of_deaf hd (hm h args straps rfl))

/-- The other commands of the line that a deaf part does not take: arrivals that are only counted, and windows. -/
theorem exec_line_deaf {c : Instr} (hd : s.deaf = true)
    (hc : c = .badArrival ∨ (∃ b, c = .errorWindowEnd b) ∨ ∃ e, c = .contentionWindow e) : exec c s = .next s := by
  have hends : ¬ s.windowEnds = true := by simp [State.windowEnds, hd]
  rcases hc with rfl | ⟨b, rfl⟩ | ⟨e, rfl⟩
  · exact congrArg _ (if_pos hd)
  · exact congrArg _ (if_neg hends)
  · exact congrArg _ (if_pos hd)

/-- No timer, no mark sample, no feedback and no compaction acts while RSTN is low (R185, log 5). -/
theorem exec_event_reset {c : Instr} (h : s.pins.rstn = false)
    (hc : (∃ l, c = .markSample l) ∨ (∃ fb, c = .exchangeComplete fb) ∨
      c ∈ [.controlPeriodExpiry, .seekCompletion, .passEnd, .haltComplete, .downloadLapse, .ownerLapse, .contestExpiry,
           .configExchangeInterval, .compactionComplete]) : exec c s = .next s := by
  have hlow : ¬ s.pins.rstn = true := by simp [h]
  have htimer : s.timerRuns = false := by simp [State.timerRuns, h]
  have hstays : ∀ {p : Bool} {t : State}, p = false →
      Host.Outcome.next (if p then t else s) = (.next s : Host.Outcome State Fault Refusal) := fun hp => by rw [hp]; rfl
  simp only [List.mem_cons, List.not_mem_nil, or_false] at hc
  rcases hc with ⟨l, rfl⟩ | ⟨fb, rfl⟩ | rfl | rfl | rfl | rfl | rfl | rfl | rfl | rfl | rfl
  · exact hstays h
  · exact hstays h
  · exact hstays htimer
  · exact hstays (by rw [State.seekCompletes, htimer]; rfl)
  · exact hstays (by rw [State.passEnds, htimer]; rfl)
  · exact hstays (by rw [State.haltCompletes, htimer]; rfl)
  · exact hstays (by rw [State.downloadLapses, htimer]; rfl)
  · exact hstays (by rw [State.ownerLapses, htimer]; rfl)
  · exact hstays (by rw [State.contestExpires, htimer]; rfl)
  · exact congrArg _ (if_neg fun hrun => hlow hrun.1)
  · exact congrArg _ (if_neg fun hrun => hlow hrun.1)

/-- Settles O12, by what a counted arrival leaves and by what a deaf part takes. -/
theorem goodArrivalIsCounted : Obligations.GoodArrivalIsCounted := by
  refine ⟨fun n s hn => ⟨s.heard, ?_, ?_, rfl, State.heard_counters, State.countArrival_windowAfter false,
    State.countArrival_eq false⟩, fun c s hlow hc => ?_, fun c s hflight hc => ?_⟩
  · exact congrArg _ (State.arrive_heard hn)
  · exact congrArg _ (State.arrive_heard hn)
  · have hd := State.deaf_of_reset hlow
    rcases hc with hc | hc | hc | hc | hc
    · exact exec_deaf hd hc fun _ _ _ _ hm => Bool.false_ne_true (hlow.symm.trans hm.1)
    · exact exec_line_deaf hd (.inl hc)
    · exact exec_line_deaf hd (.inr (.inl hc))
    · exact exec_line_deaf hd (.inr (.inr hc))
    · exact exec_event_reset hlow hc
  · have hd := State.deaf_of_inFlight hflight
    rcases hc with ⟨hc, hm⟩ | hc
    · exact exec_deaf hd hc hm
    · exact exec_line_deaf hd hc

theorem exec_badArrival (hd : s.deaf = false) : exec .badArrival s = .next (s.countArrival true) :=
  congrArg _ (if_neg (by simp [hd]))

theorem exec_errorWindowEnd (bad : Bool) (h : s.windowEnds = true) :
    exec (.errorWindowEnd bad) s = .next (s.countArrival bad) := congrArg _ (if_pos h)

/-- Settles O13, by what a counted arrival leaves. -/
theorem badArrivalsAndTheErrorWindow : Obligations.BadArrivalsAndTheErrorWindow := by
  refine ⟨fun s hrst hfree => ⟨s.countArrival true, exec_badArrival (State.not_deaf hrst hfree),
    State.countArrival_counters true, State.countArrival_windowAfter true, State.countArrival_eq true⟩,
    fun bad s hrst hfree hfrozen hsize => ⟨s.countArrival bad, ?_, ?_⟩⟩
  · refine exec_errorWindowEnd bad ?_
    simp only [State.windowEnds, State.not_deaf hrst hfree, State.frozen, hfrozen, satAdd]
    exact decide_eq_true hsize
  · obtain ⟨harrivals, hbad, hpoor⟩ := State.countArrival_windowEnds bad hfrozen hsize
    have heq := State.countArrival_eq (s := s) bad
    rw [harrivals, hbad] at heq
    exact ⟨harrivals, hbad, by rw [hpoor, decide_eq_true_eq], State.countArrival_counters bad, heq⟩

end Sys2Proof.Machine

/-! SUPPORT. The outbound list in a contention window (R160 to R164), and the completion of a sent frame (R165). -/

namespace Sys2Proof.Machine

variable {s : State}

/-! The key offered, and what is lower (R160 to R162). -/

theorem keyOf_toNat (p : Part) (n : Station) : (keyOf p.cls n).toNat = 16 * p.cls + n.val := by
  revert n; cases p <;> decide

theorem keys_all_ge_iff (others : Option Byte) (key : Byte) :
    ¬ (others.any fun k => k < key) = true ↔ ∀ o, others = some o → key.toNat ≤ o.toNat := by
  cases others with
  | none => simp
  | some k => simp [BitVec.lt_def]

/-! The own slot (R161, R162). -/

section Slot

variable {o : Offer} {others : Option Byte}

theorem State.ownSlot_nothing (ho : s.link.offer = none) : s.ownSlot others = s := by
  rw [State.ownSlot, ho]

theorem State.ownSlot_loses (ho : s.link.offer = some o) (h : (others.any fun k => k < o.key) = true) :
    s.ownSlot others = s.setLink { s.link with offer := none } := by
  rw [State.ownSlot, ho]
  exact if_pos h

theorem State.ownSlot_emptied (ho : s.link.offer = some o) (hpart : s.link.takeFrame o.part = none) :
    s.ownSlot others = s.setLink { s.link with offer := none } := by
  rw [State.ownSlot, ho]
  dsimp only
  rw [hpart]
  exact ite_self _

theorem State.ownSlot_sends {f : Frame} {l : Link} (ho : s.link.offer = some o)
    (h : ¬ (others.any fun k => k < o.key) = true) (hpart : s.link.takeFrame o.part = some (f, l)) :
    s.ownSlot others = s.setLink { l with offer := none, inFlight := some { key := o.key, frame := f } } := by
  rw [State.ownSlot, ho]
  dsimp only
  rw [if_neg h, hpart]

end Slot

/-! What each part holds (R162, R164). -/

theorem Link.takeFrame_halt {l : Link} {f : HaltFrame} (h : l.haltSlot = some f) :
    l.takeFrame .halt = some (.halt f, { l with haltSlot := none }) := by simp [Link.takeFrame, h]

theorem Link.takeFrame_cue {l : Link} {f : CueFrame} {rest : List CueFrame} (h : l.cueList = f :: rest) :
    l.takeFrame .cue = some (.cue f, { l with cueList := rest }) := by simp [Link.takeFrame, h]

theorem Link.takeFrame_state {l : Link} {r : Report} (h : l.stateSlot = some r) :
    l.takeFrame .state = some (.state r, { l with stateSlot := none }) := by simp [Link.takeFrame, h]

theorem Link.takeFrame_reply {l : Link} {r : Reply} (h : l.replySlot = some r) :
    l.takeFrame .reply = some (.reply r, { l with replySlot := none }) := by simp [Link.takeFrame, h]

/-! A window told whole (R161, R162). -/

theorem State.ownSlot_openWindow_nothing (others : Option Byte) (h : s.link.firstPart = none) :
    s.openWindow.ownSlot others = s.setLink { s.link with offer := none } := by
  have ho : s.openWindow = s.setLink { s.link with offer := none } := by rw [State.openWindow, h]; rfl
  rw [ho, State.ownSlot_nothing rfl]

/-- The first non-empty part is sent where no lower key is offered, and otherwise the offer is withdrawn. -/
theorem State.ownSlot_openWindow {p : Part} {f : Frame} {l : Link} {wins : Prop} [Decidable wins] (others : Option Byte)
    (hfirst : s.link.firstPart = some p) (hpart : s.openWindow.link.takeFrame p = some (f, l))
    (hwins : wins ↔ ∀ o, others = some o → 16 * p.cls + s.own.val ≤ o.toNat) :
    s.openWindow.ownSlot others =
      s.setLink (if wins then { l with offer := none, inFlight := some { key := keyOf p.cls s.own, frame := f } }
        else { s.link with offer := none }) := by
  have ho : s.openWindow.link.offer = some { part := p, key := keyOf p.cls s.own } := by
    rw [State.openWindow, hfirst]; rfl
  rw [← keyOf_toNat, ← keys_all_ge_iff] at hwins
  split
  · exact State.ownSlot_sends ho (hwins.mp ‹_›) hpart
  · exact State.ownSlot_loses ho (not_not.mp (mt hwins.mpr ‹_›))

section Window

variable (hd : s.deaf = false)
include hd

theorem exec_window_opening : exec (.contentionWindow .opening) s = .next s.openWindow :=
  congrArg _ (if_neg (by simp [hd]))

theorem exec_window_slot (others : Option Byte) :
    exec (.contentionWindow (.slot others)) s = .next (s.ownSlot others) :=
  congrArg _ (if_neg (by simp [hd]))

/-- At the own slot of an offer that no lower key withdrew, the part is sent as it then stands. -/
theorem exec_slot_sends {o : Offer} {others : Option Byte} {p : Part} {f : Frame} {l : Link} (ho : s.link.offer = some o)
    (hwins : ∀ k, others = some k → o.key ≤ k) (hp : o.part = p) (hpart : s.link.takeFrame p = some (f, l)) :
    exec (.contentionWindow (.slot others)) s =
      .next (s.setLink { l with offer := none, inFlight := some { key := o.key, frame := f } }) := by
  subst hp
  rw [exec_window_slot hd, State.ownSlot_sends ho ((keys_all_ge_iff others o.key).mpr hwins) hpart]

theorem exec_slot_emptied {o : Offer} {others : Option Byte} {p : Part} (ho : s.link.offer = some o) (hp : o.part = p)
    (hpart : s.link.takeFrame p = none) :
    exec (.contentionWindow (.slot others)) s = .next (s.setLink { s.link with offer := none }) := by
  subst hp
  rw [exec_window_slot hd, State.ownSlot_emptied ho hpart]

theorem exec_window_whole (others : Option Byte) :
    exec (.contentionWindow (.whole others)) s = .next (s.openWindow.ownSlot others) :=
  congrArg _ (if_neg (by simp [hd]))

end Window

/-- A window leaves no offer standing, whether it is won or lost. -/
theorem State.ownSlot_offer (others : Option Byte) : (s.ownSlot others).link.offer = none := by
  unfold State.ownSlot
  split
  · assumption
  · split
    · rfl
    · split <;> rfl

/-- The opening offers the key of the first non-empty part (R162). -/
theorem State.openWindow_eq : s.openWindow = s.setLink { s.link with
    offer :=
      if s.link.haltSlot.isSome then some { part := .halt, key := keyOf 0 s.own }
      else if s.link.cueList ≠ [] then some { part := .cue, key := keyOf 1 s.own }
      else if s.link.stateSlot.isSome then some { part := .state, key := keyOf 2 s.own }
      else if s.link.replySlot.isSome then some { part := .reply, key := keyOf 3 s.own }
      else none } := by
  unfold State.openWindow Link.firstPart
  split_ifs <;> rfl

/-- Settles O47, part by part of the outbound list. -/
theorem contentionWindowIsWonByTheLowestKey : Obligations.ContentionWindowIsWonByTheLowestKey := by
  refine ⟨fun others s hrst hfree => ⟨_, exec_window_whole (State.not_deaf hrst hfree) others,
    State.ownSlot_offer others, fun f hf => ?_, fun hh f rest hf => ?_, fun hh hc r hr => ?_, fun hh hc hs r hr => ?_, fun hh hc hs hr => ?_⟩,
    fun s hrst hfree => ?_⟩
  · exact State.ownSlot_openWindow others (by simp [Link.firstPart, hf]) (Link.takeFrame_halt hf) (by simp [Part.cls])
  · exact State.ownSlot_openWindow others (by simp [Link.firstPart, hh, hf]) (Link.takeFrame_cue hf) (by simp [Part.cls])
  · exact State.ownSlot_openWindow others (by simp [Link.firstPart, hh, hc, hr]) (Link.takeFrame_state hr)
      (by simp [Part.cls])
  · exact State.ownSlot_openWindow others (by simp [Link.firstPart, hh, hc, hs, hr]) (Link.takeFrame_reply hr)
      (by simp [Part.cls])
  · exact State.ownSlot_openWindow_nothing others (by simp [Link.firstPart, hh, hc, hs, hr])
  · have hd := State.not_deaf hrst hfree
    rw [exec_window_opening hd, State.openWindow_eq]
    refine ⟨rfl, fun ho others => ?_, fun o ho others => ⟨?_, fun hwins => ?_⟩⟩
    · rw [exec_window_slot hd, State.ownSlot_nothing ho]
    · rintro ⟨k, rfl, hk⟩
      rw [exec_window_slot hd, State.ownSlot_loses ho (by simp [hk])]
    · have hsends {p f l} := exec_slot_sends (p := p) (f := f) (l := l) hd ho hwins
      have hemptied {p} := exec_slot_emptied (p := p) (others := others) hd ho
      exact ⟨fun hp hs => hemptied hp (by simp [Link.takeFrame, hs]),
        fun r hp hr => hsends hp (Link.takeFrame_state hr),
        fun hp hs => hemptied hp (by simp [Link.takeFrame, hs]),
        fun f hp hf => hsends hp (Link.takeFrame_halt hf),
        fun hp hs => hemptied hp (by simp [Link.takeFrame, hs]),
        fun f rest hp hf => hsends hp (Link.takeFrame_cue hf), fun r hp hr => hsends hp (Link.takeFrame_reply hr)⟩

/-! The completion of a sent frame (R165). -/

theorem exec_transmissionComplete {f : InFlight} (hf : s.link.inFlight = some f) :
    exec .transmissionComplete s =
      .next ((s.completeFrame f.frame).setLink { (s.completeFrame f.frame).link with inFlight := none }) := by
  show execTransmissionComplete s = _
  rw [execTransmissionComplete, hf]

/-- The station's part of a mask of a sent cue frame (R29, log 25). -/
theorem State.completeFrame_go (m : StationMask) (id : Byte) : s.completeFrame (.cue (.go m id)) =
    if m.getLsbD s.own.val = true then s.actGo m id else s := rfl

theorem State.completeFrame_stop (m : StationMask) (id : Byte) : s.completeFrame (.cue (.stop m id)) =
    if m.getLsbD s.own.val = true then s.actStop id else s := rfl

theorem State.actStop_stops {id : Byte} (hrun : s.halt.station = .run) (hplays : s.running.state ≠ .idle)
    (hname : id = 255 ∨ s.running.cueId = id) : s.actStop id = s.idleCue :=
  if_pos ⟨hrun, (RunningSlot.named_iff _ _).mpr ⟨hplays, hname⟩⟩

theorem State.actStop_miss {id : Byte}
    (hbad : s.halt.station ≠ .run ∨ s.running.state = .idle ∨ id ≠ 255 ∧ s.running.cueId ≠ id) :
    s.actStop id = s.countMiss :=
  if_neg (mt (State.running_named_iff id).mp (not_not.mpr hbad))

/-- Settles O48, by the frame that completes. -/
theorem transmissionCompletes : Obligations.TransmissionCompletes := by
  intro f s hf
  refine ⟨_, exec_transmissionComplete hf, rfl, ?_, ?_, ?_, fun m id hgo => ⟨fun hm => ?_, fun hm => ⟨?_, ?_⟩⟩,
    fun m id hstop => ⟨fun hm => ?_, fun hm => ⟨?_, ?_⟩⟩⟩
  · rintro h hframe; rw [hframe]; rfl
  · rintro r hframe; rw [hframe]; rfl
  · rintro r hframe; rw [hframe]; rfl
  · rw [hgo, State.completeFrame_go, if_neg (ne_true_of_eq_false hm)]
  · intro hid hrun hnext hname
    rw [hgo, State.completeFrame_go, if_pos hm, State.actGo_starts hid hrun hnext hname]
    exact ⟨State.cueStarted_iff.mpr ⟨rfl, rfl, rfl⟩, rfl⟩
  · intro hbad
    rw [hgo, State.completeFrame_go, if_pos hm, State.actGo_miss hbad]
    rfl
  · rw [hstop, State.completeFrame_stop, if_neg (ne_true_of_eq_false hm)]
  · intro hrun hplays hname
    rw [hstop, State.completeFrame_stop, if_pos hm, State.actStop_stops hrun hplays hname]
    rfl
  · intro hbad
    rw [hstop, State.completeFrame_stop, if_pos hm, State.actStop_miss hbad]
    rfl

end Sys2Proof.Machine

/-! SUPPORT. The path of every request (R172, R188). -/

namespace Sys2Proof.Machine

variable {s : State} {h : ReqHeader}

/-- Every kind of request goes the path of R172, a RESTART too where the own frame is not in flight. -/
theorem exec_request {c : Instr} (hc : c.header = some h) (hs : s.hears h.sender) :
    ∃ kind owner, exec c s = .next (s.request h kind owner) := by
  cases c
  case ident | startRecordWriteSection1 | startRecordWriteSection2 | statusRead | statusReadPeer | countersRead |
      presetOpen | keyframeWrite | presetClose | presetErase | presetEdit | directoryRead | keyframeRead | poolCompact |
      triggerArm | triggerDisarm | triggerRead | unknownRequestKind =>
    rw [← Option.some.inj hc]
    exact ⟨_, _, rfl⟩
  case restart header args straps =>
    rw [Option.some.inj hc]
    exact ⟨_, _, execRestart_heard hs⟩
  all_goals exact nomatch hc

/-- A request that its owner refuses as it stands is answered BAD_REQUEST and changes nothing else. -/
theorem State.request_refused {kind : Byte} {owner : State → Answer} (hs : s.serves h)
    (howner : owner s.heard = s.heard.answer .badRequest) :
    Host.Outcome.next (s.request h kind owner) =
      (.next (s.heard.withReply h kind .badRequest []) : Host.Outcome State Fault Refusal) := by
  rw [State.request_served hs, howner, State.answer_reply]

/-- Settles O49: every kind goes one path, and every owner refuses a wrong length at once. -/
theorem requestPath : Obligations.RequestPath := by
  refine ⟨fun c h s hc hs => ?_, fun h kind straps s hs => ?_⟩
  · obtain ⟨kind, owner, hexec⟩ := exec_request hc hs
    rw [hexec]
    exact ⟨fun ht => congrArg _ (State.request_other hs ht), fun ht hr => congrArg _ (State.request_dropped hs ht hr)⟩
  · have hrefused {k : Byte} {owner : State → Answer} := State.request_refused (kind := k) (owner := owner) hs
    have hrestart : exec (.restart h .wrongLength straps) s = .next (s.heard.withReply h 0x03 .badRequest []) :=
      (execRestart_heard hs.1).trans (hrefused rfl)
    exact ⟨hrefused rfl, hrefused rfl, hrefused rfl, hrefused rfl, hrestart, hrefused rfl, hrefused rfl, hrefused rfl,
      hrefused rfl, hrefused rfl, hrefused rfl, hrefused rfl, hrefused rfl, hrefused rfl, hrefused rfl, hrefused rfl,
      hrefused rfl, hrefused rfl⟩

end Sys2Proof.Machine

/-! SUPPORT. Flags at their bits, and codes side by side in one byte or set (R187, chapter 11). -/

namespace Sys2Proof.Machine

/-! Flags (R187). -/

theorem flagIf_getLsbD (p : Bool) {bit : Nat} (h : bit < 16) (i : Nat) :
    (flagIf p bit).getLsbD i = (p && decide (i = bit)) := by
  cases p with
  | false => exact BitVec.getLsbD_zero
  | true =>
    change (BitVec.twoPow 16 bit).getLsbD i = _
    rw [BitVec.getLsbD_twoPow, decide_eq_true h, Bool.true_and, Bool.true_and]
    exact decide_eq_decide.mpr eq_comm

/-- The flags given added to a set, from bit `k` on. -/
def flagsFrom (acc : Half) : Nat → List Bool → Half
  | _, [] => acc
  | k, b :: bs => flagsFrom (acc ||| flagIf b k) (k + 1) bs

theorem flagsFrom_getLsbD (bs : List Bool) : ∀ (acc : Half) (k i : Nat), k + bs.length ≤ 16 →
    (flagsFrom acc k bs).getLsbD i = (acc.getLsbD i || (decide (k ≤ i) && bs.getD (i - k) false)) := by
  induction bs with
  | nil => simp [flagsFrom]
  | cons b bs ih =>
    intro acc k i h
    rw [List.length_cons] at h
    rw [flagsFrom, ih _ _ _ (by omega), BitVec.getLsbD_or, flagIf_getLsbD b (by omega), Bool.or_assoc]
    congr 1
    rcases Nat.lt_trichotomy i k with hlt | rfl | hgt
    · rw [decide_eq_false (by omega : ¬ i = k), decide_eq_false (by omega : ¬ k + 1 ≤ i),
        decide_eq_false (by omega : ¬ k ≤ i), Bool.and_false, Bool.false_and, Bool.false_and, Bool.or_false]
    · simp
    · obtain ⟨j, rfl⟩ : ∃ j, i = k + 1 + j := ⟨i - (k + 1), by omega⟩
      rw [decide_eq_false (by omega : ¬ k + 1 + j = k), decide_eq_true (by omega : k + 1 ≤ k + 1 + j),
        decide_eq_true (by omega : k ≤ k + 1 + j), Nat.add_sub_cancel_left, (by omega : k + 1 + j - k = j + 1),
        List.getD_cons_succ, Bool.and_false, Bool.false_or]

/-- The set that carries the flags given, from bit 0 on. -/
def flagSet : List Bool → Half
  | [] => 0
  | b :: bs => flagsFrom (flagIf b 0) 1 bs

theorem flagSet_getLsbD (bs : List Bool) (h : bs.length ≤ 16) (i : Nat) :
    (flagSet bs).getLsbD i = bs.getD i false := by
  cases bs with
  | nil => exact BitVec.getLsbD_zero
  | cons b bs =>
    rw [List.length_cons] at h
    rw [flagSet, flagsFrom_getLsbD _ _ _ _ (by omega), flagIf_getLsbD b (by decide)]
    cases i with
    | zero => simp
    | succ i => simp

theorem flagSet_lt {bs : List Bool} {n : Nat} (h : bs.length ≤ n) (hn : n ≤ 16) : (flagSet bs).toNat < 2 ^ n :=
  Nat.lt_pow_two_of_testBit _ fun i hi => by
    rw [← BitVec.getLsbD, flagSet_getLsbD bs (by omega), List.getD_eq_default _ _ (by omega)]

theorem foldr_bits_testBit (bs : List Bool) : ∀ i : Nat,
    (bs.foldr (fun (b : Bool) n => n * 2 + b.toNat) 0).testBit i = bs.getD i false := by
  induction bs with
  | nil => simp
  | cons b bs ih =>
    intro i
    rw [List.foldr_cons]
    generalize bs.foldr (fun (b : Bool) n => n * 2 + b.toNat) 0 = n at ih ⊢
    cases i with
    | zero => cases b <;> simp [Nat.testBit_zero]
    | succ i =>
      have hhalf : (n * 2 + b.toNat) / 2 = n := by
        cases b
        · simp
        · simp; omega
      rw [Nat.testBit_succ, hhalf, List.getD_cons_succ, ih i]

theorem bits8_getLsbD (bs : List Bool) (h : bs.length ≤ 8) (i : Nat) :
    (bits8 bs).getLsbD i = bs.getD i false := by
  rw [bits8, BitVec.getLsbD_ofNat, foldr_bits_testBit]
  by_cases hi : i < 8
  · rw [decide_eq_true hi, Bool.true_and]
  · rw [decide_eq_false hi, List.getD_eq_default _ _ (by omega), Bool.false_and]

/-! Codes (chapter 11). -/

theorem levelCode_le (l : Option Bool) : levelCode l ≤ 2 := by
  rcases l with _ | b
  · exact le_refl _
  · cases b <;> decide

theorem levelsByte_at (l : Lines (Option Bool)) (n : Fin 4) :
    (levelsByte l).toNat / 4 ^ n.val % 4 = levelCode (l.at n) := by
  have h0 := levelCode_le l.mk0
  have h1 := levelCode_le l.mk1
  have h2 := levelCode_le l.mk2
  have h3 := levelCode_le l.mk3
  have hsum : (levelsByte l).toNat =
      levelCode l.mk0 + 4 * levelCode l.mk1 + 16 * levelCode l.mk2 + 64 * levelCode l.mk3 :=
    Nat.mod_eq_of_lt (by omega)
  rw [hsum]
  match n with
  | 0 => change _ / 1 % 4 = levelCode l.mk0; omega
  | 1 => change _ / 4 % 4 = levelCode l.mk1; omega
  | 2 => change _ / 16 % 4 = levelCode l.mk2; omega
  | 3 => change _ / 64 % 4 = levelCode l.mk3; omega

theorem ofNat16_shiftLeft_toNat {n k : Nat} (h : n * 2 ^ k < 2 ^ 16) : (BitVec.ofNat 16 n <<< k).toNat = n * 2 ^ k := by
  have hn : n < 2 ^ 16 := (Nat.le_mul_of_pos_right n (Nat.two_pow_pos k)).trans_lt h
  rw [BitVec.toNat_shiftLeft, BitVec.toNat_ofNat, Nat.shiftLeft_eq, Nat.mod_eq_of_lt hn, Nat.mod_eq_of_lt h]

/-- Flags below bit 9, a code at bits 9..10 and one from bit 11 on are read apart. -/
theorem flags_and_codes {flags : Half} (h : flags.toNat < 2 ^ 9) {a c : Nat} (ha : a < 4) (hc : c < 4) :
    let w := flags ||| (BitVec.ofNat 16 a <<< 9) ||| (BitVec.ofNat 16 c <<< 11)
    (∀ i, i < 9 → w.getLsbD i = flags.getLsbD i) ∧ w.toNat / 2 ^ 9 % 4 = a ∧ w.toNat / 2 ^ 11 = c := by
  intro w
  have hw : w.toNat = flags.toNat ||| a * 2 ^ 9 ||| c * 2 ^ 11 := by
    rw [BitVec.toNat_or, BitVec.toNat_or, ofNat16_shiftLeft_toNat (by omega), ofNat16_shiftLeft_toNat (by omega)]
  refine ⟨fun i hi => ?_, ?_, ?_⟩
  · rw [BitVec.getLsbD_or, BitVec.getLsbD_or, BitVec.getLsbD_shiftLeft, BitVec.getLsbD_shiftLeft]
    simp [hi, (by omega : i < 11)]
  · have hhigh : c * 2 ^ 11 / 2 ^ 9 = c * 2 ^ 2 := by omega
    have hmod : (a ||| c * 2 ^ 2) % 2 ^ 2 = a := by
      rw [Nat.or_mod_two_pow, Nat.mul_mod_left, Nat.or_zero, Nat.mod_eq_of_lt ha]
    rw [hw, Nat.or_div_two_pow, Nat.or_div_two_pow, Nat.div_eq_of_lt h, Nat.mul_div_cancel _ (by decide), hhigh,
      Nat.zero_or]
    exact hmod
  · rw [hw, Nat.or_div_two_pow, Nat.or_div_two_pow, Nat.div_eq_of_lt (by omega), Nat.div_eq_of_lt (by omega),
      Nat.mul_div_cancel _ (by decide), Nat.zero_or, Nat.zero_or]

end Sys2Proof.Machine

/-! SUPPORT. The STATE report, and the layouts of chapter 11 field by field (R110, R142, R167, R175, R187 to R189). -/

namespace Sys2Proof.Machine

variable {s : State}

/-! The STATE report (R167). -/

/-- The flags of a report in the order of their bits (R167, R187). -/
def State.flagList (s : State) : List Bool :=
  [decide (s.port.status = .fault), s.port.posLimit, s.port.negLimit, s.blend.atLimit, s.running.peerLost,
   decide (0 < s.stick.contest), s.stick.lapsed, s.peers.periodMismatch, s.peers.coupleBlind, s.store.compacting,
   s.link.linkPoor]

theorem State.reportFlags_getLsbD (i : Nat) : s.reportFlags.getLsbD i = s.flagList.getD i false :=
  flagSet_getLsbD s.flagList (by simp [State.flagList]) i

theorem Peers.periodMismatch_iff (p : Peers) : p.periodMismatch = true ↔
    ∃ n : Station, p.records[n].present = true ∧ p.records[n].age ≤ 8 ∧ p.records[n].mismatch = true := by
  simp only [Peers.periodMismatch, any_stations_iff, Bool.and_eq_true, PeerRecord.fresh_iff, and_assoc]

theorem Peers.coupleBlind_iff (p : Peers) : p.coupleBlind = true ↔ ∃ c, p.coupling = some c ∧ c.blind = true := by
  unfold Peers.coupleBlind
  split
  · rename_i c hc
    simp [hc]
  · rename_i hc
    simp [hc]

theorem State.makeReport_fields : let r := s.makeReport
    r.axisKind = s.start.record.map (fun q => q.axisKind) ∧ r.state = s.halt.station ∧ r.epoch = s.halt.epoch ∧
    r.causes = s.halt.causes ∧ r.measured = s.port.measured ∧
    (s.halt.station = .config → r.velocity = 0) ∧ (s.halt.station ≠ .config → r.velocity = s.blend.v) ∧
    (s.start.record = none → r.controlPeriod = 0) ∧
    ∀ q, s.start.record = some q → r.controlPeriod = q.controlPeriod := by
  refine ⟨rfl, rfl, rfl, rfl, rfl, fun h => if_pos h, State.makeReport_velocity, fun h => ?_, fun q h => ?_⟩
  · simp [State.makeReport, h]
  · simp [State.makeReport, h]

/-! The own status (R142). -/

/-- The bytes of halt control: the origin is 255 while the halt record is absent, and what follows it then is free
(log 31). -/
theorem Halt.statusBytes_eq (h : Halt) : ∃ origin entry causes epoch,
    h.statusBytes = [stationStateCode h.station, h.causes, h.epoch, origin, entry, causes, epoch] ∧
    (h.record = none → origin = 255) ∧
    ∀ r, h.record = some r → origin = stationByte r.origin ∧ entry = r.entryCauses ∧ causes = r.originCauses ∧
      epoch = r.entryEpoch := by
  cases hr : h.record with
  | none => exact ⟨_, _, _, _, by rw [Halt.statusBytes, hr]; rfl, fun _ => rfl, nofun⟩
  | some r =>
    refine ⟨_, _, _, _, by rw [Halt.statusBytes, hr]; rfl, nofun, ?_⟩
    rintro _ ⟨⟩
    exact ⟨rfl, rfl, rfl, rfl⟩

theorem nextByte_toNat (st : NextState) (c : StartCondition) (p : Preset) :
    (nat8 ((nextStateCode st).toNat + 4 * (startConditionCode c).toNat + 8 * p.val)).toNat =
      (nextStateCode st).toNat + 4 * (startConditionCode c).toNat + 8 * p.val := by
  have hst : (nextStateCode st).toNat ≤ 3 := by cases st <;> decide
  have hc : (startConditionCode c).toNat ≤ 1 := by cases c <;> decide
  exact Nat.mod_eq_of_lt (by omega)

theorem runningByte_toNat (st : CueState) (m : Mode) :
    (nat8 ((cueStateCode st).toNat + 4 * (modeCode m).toNat)).toNat =
      (cueStateCode st).toNat + 4 * (modeCode m).toNat := by
  have hst : (cueStateCode st).toNat ≤ 2 := by cases st <;> decide
  have hm : (modeCode m).toNat ≤ 2 := by cases m <;> decide
  exact Nat.mod_eq_of_lt (by omega)

/-- The flags of the own status in the order of their bits (chapter 11). -/
def State.statusFlags (s : State) : List Bool :=
  [s.blend.atLimit, s.running.peerLost, decide (0 < s.stick.contest), s.stick.lapsed, s.link.linkPoor,
   s.store.compacting, s.store.download.isSome, s.store.recording.isSome, s.frozen]

theorem State.standingCode_eq : s.standingCode =
    if s.record.markMode = .pattern then
      (match s.mark.standing with
       | .setAside => 0
       | .out => 1
       | .inMatch => 2)
    else 0 := ite_not ..

theorem State.standingCode_lt : s.standingCode < 4 := by
  rw [State.standingCode_eq]
  split
  · split <;> decide
  · decide

theorem State.statusBits_fields :
    (∀ i, i < 9 → s.statusBits.getLsbD i = s.statusFlags.getD i false) ∧
    s.statusBits.toNat / 2 ^ 9 % 4 = (stickPhaseCode s.stick.phase).toNat ∧
    s.statusBits.toNat / 2 ^ 11 = s.standingCode := by
  have hphase : (stickPhaseCode s.stick.phase).toNat < 4 := by cases s.stick.phase <;> decide
  have hlen : s.statusFlags.length = 9 := rfl
  obtain ⟨hflags, hphases, hstanding⟩ :=
    flags_and_codes (flagSet_lt hlen.le (by decide)) hphase State.standingCode_lt
  exact ⟨fun i hi => (hflags i hi).trans (flagSet_getLsbD _ (by omega) i), hphases, hstanding⟩

/-! The coupling value of the peer status (R110). -/

theorem Peers.couplingValue_none {p : Peers} (h : p.coupling = none) : p.couplingValue = 0 := by
  simp [Peers.couplingValue, h]

theorem Peers.couplingValue_some {p : Peers} {c : Coupling} (h : p.coupling = some c) : p.couplingValue = c.value := by
  simp [Peers.couplingValue, h]

/-! The directory entry (R18). -/

theorem Store.held_eq_sum (st : Store) :
    st.held = (presets.map fun q => if (st.entry q).state = .empty then 0 else (st.entry q).count).sum := by
  rw [Store.held, Store.directory_toList, List.map_map]
  refine congrArg List.sum (List.map_congr_left fun q _ => ?_)
  by_cases hq : (st.entry q).state = .empty <;> simp [DirEntry.owns, hq]

/-- Four bytes of progress, whatever the entry is about (R18). -/
theorem Store.progressBytes_eq (st : Store) (p : Preset) : ∃ a b c d, st.progressBytes p = [a, b, c, d] ∧
    (∀ x, (st.entry p).state = .loading → st.download = some x →
      a = stationByte x.owner ∧ (b ++ c : Half) = BitVec.ofNat 16 x.nextIndex ∧ d = 0) ∧
    (∀ r, (st.entry p).state = .recording → st.recording = some r →
      (a ++ b ++ c ++ d : Word) = BitVec.ofNat 32 r.elapsed) ∧
    ((st.entry p).state = .empty ∨ (st.entry p).state = .ready → (a ++ b ++ c ++ d : Word) = 0) := by
  unfold Store.progressBytes
  split
  · rename_i x hst hx
    refine ⟨_, _, _, _, rfl, ?_, ?_, ?_⟩
    · rintro y - hy
      cases hx.symm.trans hy
      exact ⟨rfl, be16_join _, rfl⟩
    · rintro r hr
      exact nomatch hst.symm.trans hr
    · rintro (h | h) <;> exact nomatch hst.symm.trans h
  · rename_i r hst hr
    refine ⟨_, _, _, _, rfl, ?_, ?_, ?_⟩
    · rintro y hy
      exact nomatch hst.symm.trans hy
    · rintro q - hq
      cases hr.symm.trans hq
      exact be32_join _
    · rintro (h | h) <;> exact nomatch hst.symm.trans h
  · rename_i hload hrec
    refine ⟨_, _, _, _, rfl, ?_, ?_, fun _ => rfl⟩
    · intro x hst hx
      exact absurd hx (hload x hst)
    · intro r hst hr
      exact absurd hr (hrec r hst)

/-- The status bits stand at offset 58. -/
theorem State.ownStatus_bits : u16 s.ownStatus 58 = s.statusBits := by
  obtain ⟨origin, entry, causes, epoch, hhalt, -⟩ := Halt.statusBytes_eq s.halt
  rw [State.ownStatus, hhalt]
  simp only [Port.statusBytes, Blend.statusBytes, NextSlot.statusBytes, RunningSlot.statusBytes, Stick.statusBytes,
    Mark.statusBytes, nat16, nat24, nat32, int32, be16, be24, be32, List.cons_append, List.nil_append]
  exact be16_join _

/-- Settles O60, table by table of chapter 11. -/
theorem reportFieldsAndStatusLayout : Obligations.ReportFieldsAndStatusLayout := by
  refine ⟨fun s => ?report, fun s => ?own, fun s n => ?peer, fun r => ?state, fun c => ?counters, fun st p => ?entry,
    fun m k t p => ?records, ?codes⟩
  case report =>
    obtain ⟨hkind, hst, hepoch, hcauses, hmeasured, hv0, hv, hp0, hp⟩ := State.makeReport_fields (s := s)
    have hbit := State.reportFlags_getLsbD (s := s)
    exact ⟨hkind, hst, hepoch, hcauses, hmeasured, hv0, hv, hp0, hp, rfl, rfl, rfl, rfl, rfl, rfl, rfl,
      hbit 0, hbit 1, hbit 2, hbit 3, hbit 4, hbit 5, hbit 6,
      (Bool.eq_iff_iff.mp (hbit 7)).trans (Peers.periodMismatch_iff _),
      (Bool.eq_iff_iff.mp (hbit 8)).trans (Peers.coupleBlind_iff _), hbit 9, hbit 10,
      fun i hi => (hbit i).trans (List.getD_eq_default _ _ hi)⟩
  case own =>
    obtain ⟨origin, entry, causes, epoch, hhalt, hnone, hsome⟩ := Halt.statusBytes_eq s.halt
    have hport := bits8_getLsbD [decide (s.port.status = .fault), s.port.posLimit, s.port.negLimit] (by simp)
    obtain ⟨hflags, hphase, hstanding⟩ := State.statusBits_fields (s := s)
    rw [← State.ownStatus_bits] at hflags hphase hstanding
    rw [State.ownStatus, hhalt] at hflags hphase hstanding ⊢
    simp only [Port.statusBytes, Blend.statusBytes, NextSlot.statusBytes, RunningSlot.statusBytes, Stick.statusBytes,
      Mark.statusBytes, nat16, nat24, nat32, int32, be16, be24, be32, List.cons_append, List.nil_append]
      at hflags hphase hstanding ⊢
    refine ⟨rfl, rfl, rfl, rfl, hnone, hsome, be32_join _, hport 0, hport 1, hport 2,
      fun i hi => (hport i).trans (List.getD_eq_default _ _ hi), be32_join _, rfl, rfl, be32_join _, be32_join _,
      nextByte_toNat .., rfl, runningByte_toNat .., rfl, rfl, rfl, be24_join _, be24_join _, be24_join _, be16_join _,
      be16_join _, be32_join _, rfl, be16_join _, rfl, rfl, rfl, rfl, fun n => ?_, fun h => ?_, fun l hl n => ?_,
      hflags 0 (by decide), hflags 1 (by decide), hflags 2 (by decide), hflags 3 (by decide), hflags 4 (by decide),
      hflags 5 (by decide), hflags 6 (by decide), hflags 7 (by decide), hflags 8 (by decide), hphase,
      hstanding.trans State.standingCode_eq⟩
    · exact (levelsByte_at s.mark.accepted n).trans (congrArg levelCode (Lines.at_map _ _ n))
    · exact congrArg latchedByte h
    · exact (congrArg (fun x => (latchedByte x).toNat / 4 ^ n.val % 4) hl).trans (levelsByte_at l n)
  case peer =>
    have hbit := bits8_getLsbD [s.peers.records[n].present, s.peers.records[n].fresh, s.peers.records[n].mismatch,
      s.peers.coupleBlind] (by simp)
    simp only [State.peerStatus, reportBytes, nat16, nat24, nat32, int32, be16, be24, be32, List.cons_append,
      List.nil_append]
    exact ⟨rfl, rfl, rfl, rfl, hbit 0, hbit 1, hbit 2, (Bool.eq_iff_iff.mp (hbit 3)).trans (Peers.coupleBlind_iff _),
      fun i hi => (hbit i).trans (List.getD_eq_default _ _ hi), rfl,
      fun hc => (be32_join _).trans (congrArg _ (Peers.couplingValue_none hc)),
      fun c hc => (be32_join _).trans (congrArg _ (Peers.couplingValue_some hc))⟩
  case state =>
    simp only [reportBytes, nat16, nat24, int32, be16, be24, be32, List.cons_append, List.nil_append]
    exact ⟨rfl, rfl, rfl, rfl, rfl, be32_join _, be32_join _, be16_join _, be16_join _, rfl, rfl, be24_join _,
      be24_join _, rfl, rfl, rfl⟩
  case counters =>
    simp only [counterBytes, nat16, be16, List.cons_append, List.nil_append]
    exact ⟨rfl, be16_join _, be16_join _, be16_join _, be16_join _, be16_join _, be16_join _, be16_join _,
      be16_join _, be16_join _⟩
  case entry =>
    obtain ⟨a, b, c, d, hprogress, hloading, hrecording, hidle⟩ := Store.progressBytes_eq st p
    rw [Store.directoryBytes, hprogress, ← Store.held_eq_sum]
    simp only [modeBlockBytes, nat16, nat32, be16, be32, List.cons_append, List.nil_append]
    exact ⟨rfl, rfl, be16_join _, be16_join _, rfl, rfl, be16_join _, be16_join _, hloading, hrecording, hidle⟩
  case records =>
    have hbit := bits8_getLsbD [p.enable, p.halting] (by simp)
    simp only [modeBlockBytes, keyframeBytes, triggerBytes, setpointBytes, nat16, nat24, nat32, int32, be16, be24, be32,
      List.cons_append, List.nil_append]
    exact ⟨rfl, rfl, be32_join _, be16_join _, be16_join _, rfl, rfl, rfl, be24_join _, be32_join _, rfl, rfl, rfl, rfl,
      be32_join _, be16_join _, rfl, be16_join _, rfl, rfl, be32_join _, be32_join _, hbit 0, hbit 1,
      fun i hi => (hbit i).trans (List.getD_eq_default _ _ hi)⟩
  case codes => decide

end Sys2Proof.Machine

/-! SUPPORT. The checks of a start record (R177 to R179): the number that the first failing check reports, what each check
ranges, and what each field of the record then holds. -/

namespace Sys2Proof.Machine

/-! The first failing check. -/

/-- Every check listed under a number passes. -/
def checksPass (checks : List (Nat × Bool)) (n : Nat) : Prop := ∀ c ∈ checks, c.1 = n → c.2 = true

section Checks

variable {checks : List (Nat × Bool)} {n : Nat}

theorem checksPass_cons (c : Nat × Bool) :
    checksPass (c :: checks) n ↔ (c.1 = n → c.2 = true) ∧ checksPass checks n := List.forall_mem_cons

/-- A number under which nothing is listed passes. -/
theorem checksPass_of_unlisted (h : ∀ c ∈ checks, c.1 ≠ n) : checksPass checks n := fun c hc hn => absurd hn (h c hc)

/-- With no number listed twice the one check under a number decides it. -/
theorem checksPass_iff_of_mem {ok : Bool} (hrise : checks.Pairwise fun a b => a.1 < b.1) (hmem : (n, ok) ∈ checks) :
    checksPass checks n ↔ ok = true := by
  have hnodup : (checks.map Prod.fst).Nodup := List.pairwise_map.mpr (hrise.imp fun hlt => hlt.ne)
  refine ⟨fun h => h _ hmem rfl, fun hok c hc hn => ?_⟩
  rw [List.inj_on_of_nodup_map hnodup hc hmem hn]
  exact hok

theorem firstFailing_eq_none (h : ∀ n, checksPass checks n) : firstFailing checks = none := by
  induction checks with
  | nil => rfl
  | cons c rest ih =>
    obtain ⟨hc, -⟩ := (checksPass_cons c).mp (h c.1)
    exact (if_pos (hc rfl)).trans (ih fun n => ((checksPass_cons c).mp (h n)).2)

/-- The number reported is the lowest one that fails, the numbers being listed in ascending order. -/
theorem firstFailing_eq_some (hrise : checks.Pairwise fun a b => a.1 < b.1) (hfails : ¬ checksPass checks n)
    (hlower : ∀ m < n, checksPass checks m) : firstFailing checks = some n := by
  induction checks with
  | nil => exact absurd (fun _ hc => absurd hc List.not_mem_nil) hfails
  | cons c rest ih =>
    obtain ⟨habove, hrest⟩ := List.pairwise_cons.mp hrise
    by_cases hok : c.2 = true
    · exact (if_pos hok).trans (ih hrest (fun h => hfails ((checksPass_cons c).mpr ⟨fun _ => hok, h⟩))
        fun m hm => ((checksPass_cons c).mp (hlower m hm)).2)
    · have hle : n ≤ c.1 := le_of_not_gt fun hlt => hok (((checksPass_cons c).mp (hlower _ hlt)).1 rfl)
      have hge : c.1 ≤ n := le_of_not_gt fun hlt => hfails ((checksPass_cons c).mpr
        ⟨fun heq => absurd heq hlt.ne', checksPass_of_unlisted fun d hd => (hlt.trans (habove d hd)).ne'⟩)
      exact (if_neg hok).trans (congrArg some (le_antisymm hge hle))

theorem within_iff (lo n hi : Nat) : within lo n hi = true ↔ lo ≤ n ∧ n ≤ hi := by simp [within]

theorem within_zero_iff (n hi : Nat) : within 0 n hi = true ↔ n ≤ hi := by simp [within]

end Checks

/-! The operands of a start record (R177, R187). -/

theorem axisKindCode_of_axisKindOf : ∀ b, ∀ k ∈ axisKindOf b, axisKindCode (some k) = b := by decide

theorem markModeOf_isSome : ∀ b, (markModeOf b).isSome = true ↔ b.toNat ≤ 2 := by decide

theorem markActionOf_isSome : ∀ b, (markActionOf b).isSome = true ↔ b.toNat ≤ 2 := by decide

/-- The low four bits of a set of lines are kept (R187). -/
theorem setWidth4_getLsbD (b : Byte) (n : Fin 4) : (b.setWidth 4).getLsbD n.val = b.getLsbD n.val := by
  rw [BitVec.getLsbD_setWidth, decide_eq_true n.isLt, Bool.true_and]

/-! The two sections (R177 to R179). -/

theorem section1Checks_rising (r : RawSection1) : (section1Checks r).Pairwise fun a b => a.1 < b.1 := by
  simp [section1Checks]

theorem section2Checks_rising (own : Station) (r : RawSection2) :
    (section2Checks own r).Pairwise fun a b => a.1 < b.1 := by
  simp [section2Checks]

/-- The check at each place of the list decides its number. -/
theorem section1Checks_pass {r : RawSection1} {n : Nat} {ok : Bool} (i : Nat)
    (hlisted : (section1Checks r)[i]? = some (n, ok)) : checksPass (section1Checks r) n ↔ ok = true :=
  checksPass_iff_of_mem (section1Checks_rising r) (List.mem_of_getElem? hlisted)

theorem section2Checks_pass {own : Station} {r : RawSection2} {n : Nat} {ok : Bool} (i : Nat)
    (hlisted : (section2Checks own r)[i]? = some (n, ok)) : checksPass (section2Checks own r) n ↔ ok = true :=
  checksPass_iff_of_mem (section2Checks_rising own r) (List.mem_of_getElem? hlisted)

theorem section1Checks_unlisted (r : RawSection1) {n : Nat} (h : n = 0 ∨ n = 6 ∨ n = 8 ∨ 14 < n) :
    checksPass (section1Checks r) n := by
  refine checksPass_of_unlisted fun c hc => ?_
  have hlisted : c.1 ∈ (section1Checks r).map Prod.fst := List.mem_map_of_mem hc
  simp only [section1Checks, List.map_cons, List.map_nil, List.mem_cons, List.not_mem_nil, or_false] at hlisted
  omega

theorem section2Checks_unlisted (own : Station) (r : RawSection2) {n : Nat}
    (h : n < 15 ∨ n = 22 ∨ n = 25 ∨ n = 26 ∨ 27 < n) : checksPass (section2Checks own r) n := by
  refine checksPass_of_unlisted fun c hc => ?_
  have hlisted : c.1 ∈ (section2Checks own r).map Prod.fst := List.mem_map_of_mem hc
  simp only [section2Checks, List.map_cons, List.map_nil, List.mem_cons, List.not_mem_nil, or_false] at hlisted
  omega

/-- Field 20 names no station, or one other than the own (R177). -/
theorem section2Checks_couplingSource (own : Station) (r : RawSection2) :
    checksPass (section2Checks own r) 20 ↔
      r.couplingSource = 255 ∨ r.couplingSource.toNat < 16 ∧ r.couplingSource.toNat ≠ own.val := by
  refine (section2Checks_pass 5 rfl).trans ?_
  by_cases hnone : r.couplingSource = 255
  · rw [hnone]
    exact iff_of_true rfl (.inl rfl)
  · have hfield : stationFieldOf r.couplingSource = (stationOf r.couplingSource).map some := if_neg hnone
    rw [hfield]
    rcases station_cases r.couplingSource with ⟨hge, hread⟩ | ⟨n, hbyte, hread⟩ <;> rw [hread]
    · exact iff_of_false nofun fun h => h.elim hnone fun hlt => absurd hlt.1 (not_lt.mpr hge)
    · have hval : r.couplingSource.toNat = n.val := by
        rw [hbyte, stationByte, BitVec.toNat_ofNat]
        omega
      simp only [Option.map_some, decide_eq_true_eq, hnone, false_or, hval, n.isLt, true_and, Ne, Fin.ext_iff]

/-- A checked axis kind is held as the kind carried. -/
theorem section1Of_axisKind {r : RawSection1} (h : checksPass (section1Checks r) 1) :
    axisKindCode (some (section1Of r).axisKind) = r.axisKind := by
  obtain ⟨k, hk⟩ := Option.isSome_iff_exists.mp ((section1Checks_pass 0 rfl).mp h)
  rw [section1Of, hk]
  exact axisKindCode_of_axisKindOf _ k hk

/-- A checked coupling source is held as the station carried, or NONE. -/
theorem section2Of_couplingSource {own : Station} {r : RawSection2} (h : checksPass (section2Checks own r) 20) :
    stationField (section2Of r).couplingSource = r.couplingSource := by
  have hread : stationFieldOf r.couplingSource ≠ none := by
    rw [Ne, stationFieldOf_eq_none]
    rintro ⟨hge, hnone⟩
    exact ((section2Checks_couplingSource own r).mp h).elim hnone fun hlt => by omega
  obtain ⟨o, ho⟩ := Option.ne_none_iff_exists'.mp hread
  rw [section2Of, ho]
  exact stationField_of_read _ o ho

/-! Section 1's outcome (R178). -/

section Section1

variable {s : State} {h : ReqHeader} {r : RawSection1}

theorem exec_section1 (hs : s.serves h) (args : SectionArgs RawSection1) :
    exec (.startRecordWriteSection1 h args) s = .next ((section1ArgsAnswer args s.heard).reply h 0x02) :=
  congrArg Host.Outcome.next (State.request_served hs)

theorem State.recordClosed_iff :
    s.recordClosed = true ↔ s.halt.station ≠ .config ∨ s.start.record.isSome = true := by
  simp [State.recordClosed, State.frozen]

theorem State.recordOpen (hst : s.halt.station = .config) (hrec : s.start.record = none) :
    ¬ s.recordClosed = true := by
  rw [State.recordClosed_iff, hst, hrec]
  simp

theorem section1Answer_frozen (hclosed : s.recordClosed = true) : section1Answer r s = s.answer .frozen := if_pos hclosed

theorem section1Answer_rejected {n : Nat} (hopen : ¬ s.recordClosed = true)
    (hfirst : firstFailing (section1Checks r) = some n) : section1Answer r s = s.rejected n := by
  rw [section1Answer, if_neg hopen, hfirst]

theorem section1Answer_staged (hopen : ¬ s.recordClosed = true) (hfirst : firstFailing (section1Checks r) = none) :
    section1Answer r s = (s.setStart { s.start with staged := some (section1Of r) }).done [] := by
  rw [section1Answer, if_neg hopen, hfirst]

end Section1

/-- Settles O51: the outcome follows the first failing check, and each number has the one check of its field. -/
theorem startRecordSection1IsChecked : Obligations.StartRecordSection1IsChecked := by
  refine ⟨fun h r s hs => ⟨fun n => exec_section1 hs _, fun hclosed => ?_,
    fun hst hrec => ⟨fun n _ _ hfails hlower => ?_, fun hok => ?_⟩⟩, fun r => ?_, fun own r => ?_⟩
  · rw [exec_section1 hs, section1ArgsAnswer, section1Answer_frozen (s := s.heard) (State.recordClosed_iff.mpr hclosed),
      State.answer_reply]
  · rw [exec_section1 hs, section1ArgsAnswer, section1Answer_rejected (s := s.heard) (State.recordOpen hst hrec)
      (firstFailing_eq_some (section1Checks_rising r) hfails hlower)]
    rfl
  · rw [exec_section1 hs, section1ArgsAnswer, section1Answer_staged (s := s.heard) (State.recordOpen hst hrec)
      (firstFailing_eq_none hok), State.done_reply, State.heard_start]
  · have hrange {n lo v hi : Nat} (i : Nat) (hlisted : (section1Checks r)[i]? = some (n, within lo v hi)) :
        checksPass (section1Checks r) n ↔ lo ≤ v ∧ v ≤ hi := (section1Checks_pass i hlisted).trans (within_iff ..)
    have hupto {n v hi : Nat} (i : Nat) (hlisted : (section1Checks r)[i]? = some (n, within 0 v hi)) :
        checksPass (section1Checks r) n ↔ v ≤ hi := (section1Checks_pass i hlisted).trans (within_zero_iff ..)
    have hkind : checksPass (section1Checks r) 1 ↔ r.axisKind.toNat ≤ 7 :=
      (section1Checks_pass 0 rfl).trans ((axisKindOf_isSome _).trans Nat.lt_succ_iff)
    have hsoft : checksPass (section1Checks r) 7 ↔ r.lo.toInt < r.hi.toInt :=
      (section1Checks_pass 5 rfl).trans decide_eq_true_iff
    exact ⟨hkind, hrange 1 rfl, hrange 2 rfl, hrange 3 rfl, hrange 4 rfl, hsoft, hrange 6 rfl, hrange 7 rfl, hupto 8 rfl,
      hupto 9 rfl, hupto 10 rfl, hrange 11 rfl, fun n => section1Checks_unlisted r, section1Of_axisKind, rfl, rfl, rfl,
      rfl, rfl, rfl, rfl, rfl, rfl, rfl, rfl, rfl, rfl⟩
  · have hrange {n lo v hi : Nat} (i : Nat) (hlisted : (section2Checks own r)[i]? = some (n, within lo v hi)) :
        checksPass (section2Checks own r) n ↔ lo ≤ v ∧ v ≤ hi := (section2Checks_pass i hlisted).trans (within_iff ..)
    have hcount : checksPass (section2Checks own r) 16 ↔ 1 ≤ r.feCount.toNat :=
      (hrange 1 rfl).trans (and_iff_left (Nat.le_of_lt_succ r.feCount.isLt))
    have hlmax : checksPass (section2Checks own r) 23 ↔ r.lmax.toNat ≤ 2147483647 :=
      (section2Checks_pass 7 rfl).trans (within_zero_iff ..)
    have hmode : checksPass (section2Checks own r) 24 ↔ r.markMode.toNat ≤ 2 :=
      (section2Checks_pass 8 rfl).trans (markModeOf_isSome _)
    have haction : checksPass (section2Checks own r) 27 ↔ r.markAction.toNat ≤ 2 :=
      (section2Checks_pass 9 rfl).trans (markActionOf_isSome _)
    have hmode_read {b : Byte} : r.markMode = b → (section2Of r).markMode = (markModeOf b).getD .off :=
      congrArg fun b => (markModeOf b).getD .off
    have haction_read {b : Byte} : r.markAction = b → (section2Of r).markAction = (markActionOf b).getD .go :=
      congrArg fun b => (markActionOf b).getD .go
    exact ⟨hrange 0 rfl, hcount, hrange 2 rfl, hrange 3 rfl, hrange 4 rfl, section2Checks_couplingSource own r,
      hrange 6 rfl, hlmax, hmode, haction, fun n => section2Checks_unlisted own r, rfl, rfl, rfl, rfl, rfl,
      section2Of_couplingSource, rfl, rfl, rfl, hmode_read, hmode_read, hmode_read,
      fun n => ⟨setWidth4_getLsbD _ n, setWidth4_getLsbD _ n⟩, haction_read, haction_read, haction_read, rfl⟩

end Sys2Proof.Machine

/-! SUPPORT. The freezing of the start record: what it leaves in each block (R23, R103, R123, R180), and when section 2 brings
it (R179). -/

namespace Sys2Proof.Machine

variable {s : State} {h : ReqHeader} {r : RawSection2}

/-! The freezing (R180). -/

/-- A present record has its marker decided anew, and no other record is touched (R103). -/
theorem Peers.remarked_record (p : Peers) (w : StartRecord) (n : Station) :
    (p.remarked w).records[n] =
      if p.records[n].present then
        { p.records[n] with mismatch :=
            p.records[n].report.controlPeriod ≠ 0 && p.records[n].report.controlPeriod ≠ w.controlPeriod }
      else p.records[n] := by
  have hget : (p.remarked w).records[n] = PeerRecord.remarked w p.records[n] := mapTable_get _ _ n.val n.isLt
  rw [hget, PeerRecord.remarked, mismatches_eq]
  rfl

theorem Store.checkFrozen_putOff {st : Store} (w : StartRecord) (hc : st.compacting = true) :
    st.checkFrozen w = { st with rangeCheckDue := true } := if_pos hc

theorem Store.checkFrozen_checks {st : Store} (w : StartRecord) (hc : st.compacting = false) :
    st.checkFrozen w = st.checkRanges w.lo w.hi := if_neg (by simp [hc])

/-! Taking the standing moves the mark unit only (R123). -/

@[simp] theorem State.restand_start : s.restand.start = s.start := by rw [State.restand_eq]; rfl
@[simp] theorem State.restand_peers : s.restand.peers = s.peers := by rw [State.restand_eq]; rfl
@[simp] theorem State.restand_store : s.restand.store = s.store := by rw [State.restand_eq]; rfl
@[simp] theorem State.restand_link : s.restand.link = s.link := by rw [State.restand_eq]; rfl
@[simp] theorem State.restand_halt : s.restand.halt = s.halt := by rw [State.restand_eq]; rfl
@[simp] theorem State.restand_blend : s.restand.blend = s.blend := by rw [State.restand_eq]; rfl
@[simp] theorem State.restand_port : s.restand.port = s.port := by rw [State.restand_eq]; rfl
@[simp] theorem State.restand_running : s.restand.running = s.running := by rw [State.restand_eq]; rfl
@[simp] theorem State.restand_next : s.restand.next = s.next := by rw [State.restand_eq]; rfl

/-- The freezing moves the record, the peer table, the store and the mark unit only. -/
theorem State.freeze_blocks (w : StartRecord) :
    (s.freeze w).start = { record := some w, staged := none, station := s.start.station } ∧
    (s.freeze w).peers = s.peers.remarked w ∧ (s.freeze w).store = s.store.checkFrozen w ∧
    (s.freeze w).mark.lines = s.mark.lines ∧ (s.freeze w).mark.latched = s.mark.latched ∧
    (s.freeze w).link = s.link ∧ (s.freeze w).halt = s.halt ∧ (s.freeze w).blend = s.blend ∧
    (s.freeze w).port = s.port ∧ (s.freeze w).running = s.running ∧ (s.freeze w).next = s.next := by
  simp [State.freeze]

/-- In MATCH the standing is taken from the accepted levels at the freezing (R123). -/
theorem State.freeze_standing {w : StartRecord} (hmode : w.markMode = .pattern) :
    (s.freeze w).mark.standing = .inMatch ↔ ∀ n : Fin 4, w.markMask.getLsbD n.val = false →
      (s.mark.lines.at n).accepted = some (w.markPattern.getLsbD n.val) := by
  rw [State.freeze, State.restand_standing, State.takenStanding_inMatch_iff, State.inMatch_iff]
  · simp [State.record]
  · simpa [State.record] using hmode

/-! Section 2's outcome (R179). -/

theorem exec_section2 (hs : s.serves h) :
    exec (.startRecordWriteSection2 h (.fields r)) s = .next ((section2Answer r s.heard).reply h 0x02) :=
  congrArg Host.Outcome.next (State.request_served hs)

theorem section2Answer_frozen (hclosed : s.recordClosed = true) : section2Answer r s = s.answer .frozen := if_pos hclosed

theorem section2Answer_unstaged (hopen : ¬ s.recordClosed = true) (hstaged : s.start.staged = none) :
    section2Answer r s = s.answer .wrongState := by
  rw [section2Answer, if_neg hopen, hstaged]

theorem section2Answer_rejected {q : Section1} {n : Nat} (hopen : ¬ s.recordClosed = true)
    (hstaged : s.start.staged = some q) (hfirst : firstFailing (section2Checks s.own r) = some n) :
    section2Answer r s = s.rejected n := by
  rw [section2Answer, if_neg hopen, hstaged]
  dsimp only
  rw [hfirst]

theorem section2Answer_freezes {q : Section1} (hopen : ¬ s.recordClosed = true) (hstaged : s.start.staged = some q)
    (hfirst : firstFailing (section2Checks s.own r) = none) :
    section2Answer r s = (s.freeze { toSection1 := q, toSection2 := section2Of r }).done [] := by
  rw [section2Answer, if_neg hopen, hstaged]
  dsimp only
  rw [hfirst]

/-- Settles O52: the outcome follows the staged section and the first failing check, and DONE is the freezing. -/
theorem startRecordSection2Freezes : Obligations.StartRecordSection2Freezes := by
  intro h r s hs
  refine ⟨fun hclosed => ?_, fun hst hrec => ⟨fun hstaged => ?_, fun q hstaged => ⟨fun n _ _ hfails hlower => ?_,
    fun hok => ?_⟩⟩⟩ <;> rw [exec_section2 hs]
  · rw [section2Answer_frozen (s := s.heard) (State.recordClosed_iff.mpr hclosed), State.answer_reply]
  · rw [section2Answer_unstaged (s := s.heard) (State.recordOpen hst hrec) hstaged, State.answer_reply]
  · rw [section2Answer_rejected (s := s.heard) (State.recordOpen hst hrec) hstaged
      (firstFailing_eq_some (section2Checks_rising s.own r) hfails hlower)]
    rfl
  · rw [section2Answer_freezes (s := s.heard) (State.recordOpen hst hrec) hstaged (firstFailing_eq_none hok),
      State.done_reply]
    obtain ⟨hstart, hpeers, hstore, hlines, hlatched, hlink, hothers⟩ :=
      State.freeze_blocks (s := s.heard) { toSection1 := q, toSection2 := section2Of r }
    exact ⟨_, _, rfl, rfl, hstart,
      fun n => (congrArg (fun p : Peers => p.records[n]) hpeers).trans (Peers.remarked_record _ _ n),
      State.freeze_standing, hlines, hlatched, (congrArg Link.cueList hlink).trans State.heard_cueList,
      fun hc => hstore.trans (Store.checkFrozen_putOff _ hc), fun hc => hstore.trans (Store.checkFrozen_checks _ hc),
      rfl, hothers⟩

end Sys2Proof.Machine

/-! SUPPORT. RESTART: when it is refused (R183), and what it leaves in each block (R80, R111, R144, R155, R166, R184). -/

namespace Sys2Proof.Machine

variable {s : State} {h : ReqHeader} {straps : Station}

/-! The steps of R172 for a RESTART meant for this station. -/

theorem exec_restart_dropped (hm : s.restartMeant h) (hr : s.link.replySlot.isSome = true) :
    exec (.restart h (.fields ()) straps) s = .next s.heard.countReqDrop := by
  obtain ⟨hrst, hsender, htarget⟩ := hm
  have hslot : s.heard.link.replySlot.isSome = true := by rwa [State.heard_replySlot]
  exact (execRestart_meant hrst hsender htarget).trans
    (congrArg Host.Outcome.next (State.takeRequest_dropped (s := s.heard) htarget hslot))

theorem exec_restart_served (hm : s.restartMeant h) (hr : s.link.replySlot = none) :
    exec (.restart h (.fields ()) straps) s = .next ((restartAnswer straps s.heard).reply h 0x03) := by
  obtain ⟨hrst, hsender, htarget⟩ := hm
  exact (execRestart_meant hrst hsender htarget).trans
    (congrArg Host.Outcome.next (State.takeRequest_served (s := s.heard) htarget (State.heard_replySlot.trans hr)))

/-! A reply moves the reply slot only (R172). -/

@[simp] theorem State.withReply_mark (kind : Byte) (code : ReplyCode) (results : List Byte) :
    (s.withReply h kind code results).mark = s.mark := rfl

@[simp] theorem State.withReply_port (kind : Byte) (code : ReplyCode) (results : List Byte) :
    (s.withReply h kind code results).port = s.port := rfl

/-! RESTART's outcome (R183). -/

theorem restartAnswer_busy (hc : s.store.compacting = true) : restartAnswer straps s = s.answer .busy := if_pos hc

theorem restartAnswer_moving (hc : s.store.compacting = false)
    (hmoves : s.halt.station = .halting ∨ s.halt.station = .run ∧ s.running.state ≠ .idle) :
    restartAnswer straps s = s.answer .wrongState := by
  rw [restartAnswer, if_neg (by simp [hc]), if_pos hmoves]

theorem restartAnswer_accepted (hc : s.store.compacting = false)
    (hrest : ¬ (s.halt.station = .halting ∨ s.halt.station = .run ∧ s.running.state ≠ .idle)) :
    restartAnswer straps s = (s.restarted straps).done [stationByte straps] := by
  rw [restartAnswer, if_neg (by simp [hc]), if_neg hrest]

/-! The effects of an accepted RESTART (R184). -/

theorem Store.discardDownload_none {st : Store} (hd : st.download = none) : st.discardDownload = st := by
  rw [Store.discardDownload, hd]

@[simp] theorem Store.discardDownload_download (st : Store) : st.discardDownload.download = none := by
  cases hd : st.download with
  | none => rw [Store.discardDownload_none hd, hd]
  | some d => rw [Store.discardDownload_open hd]

@[simp] theorem Store.discardDownload_recording (st : Store) : st.discardDownload.recording = st.recording := by
  cases hd : st.download with
  | none => rw [Store.discardDownload_none hd]
  | some d => rw [Store.discardDownload_open hd, Store.free_recording]

theorem State.restarted_store (straps : Station) :
    (s.restarted straps).store = s.endRecording.store.discardDownload := rfl

theorem State.restarted_download (straps : Station) : (s.restarted straps).store.download = none :=
  Store.discardDownload_download _

theorem State.restarted_recording (straps : Station) : (s.restarted straps).store.recording = none := by
  rw [State.restarted_store, Store.discardDownload_recording, State.endRecording_recording]

/-- With no download open and no recording in progress RESTART leaves the store as it stands. -/
theorem State.restarted_store_kept (straps : Station) (hd : s.store.download = none) (hr : s.store.recording = none) :
    (s.restarted straps).store = s.store := by
  rw [State.restarted_store, State.endRecording_none hr, Store.discardDownload_none hd]

theorem State.restarted_blend (straps : Station) : (s.restarted straps).blend = s.blend.restarted :=
  congrArg Blend.restarted State.endRecording_blend

theorem State.restarted_mark (straps : Station) : (s.restarted straps).mark = s.mark.restarted :=
  congrArg Mark.restarted State.endRecording_mark

theorem State.restarted_port (straps : Station) : (s.restarted straps).port = s.port.restarted :=
  congrArg Port.restarted State.endRecording_port

theorem State.restarted_pins (straps : Station) : (s.restarted straps).pins = s.pins := State.endRecording_pins

/-- The frame in flight goes on over a RESTART (R166). -/
theorem State.restarted_inFlight (straps : Station) : (s.restarted straps).link.inFlight = s.link.inFlight := by
  obtain ⟨-, -, -, -, hflight, -⟩ := State.endRecording_list (s := s)
  exact hflight

/-- Settles O53: the steps of R172 give the outcome, and an accepted RESTART is read off block by block. -/
theorem restartReturnsToConfig : Obligations.RestartReturnsToConfig := by
  intro h straps s hm
  refine ⟨exec_restart_dropped hm, fun hr hc => ?_, fun hr hc hmoves => ?_, fun hr hc hrest => ?_⟩ <;>
    rw [exec_restart_served hm hr]
  · rw [restartAnswer_busy (s := s.heard) hc, State.answer_reply]
  · rw [restartAnswer_moving (s := s.heard) hc hmoves, State.answer_reply]
  · rw [restartAnswer_accepted (s := s.heard) hc hrest, State.done_reply]
    refine ⟨_, rfl, ?_⟩
    rw [State.withReply_mark, State.withReply_port, State.restarted_mark, State.restarted_port, State.heard_mark,
      State.heard_port]
    exact ⟨rfl, rfl, rfl, State.restarted_download straps, State.restarted_recording straps,
      State.restarted_store_kept (s := s.heard) straps, rfl, rfl, State.restarted_blend straps, rfl, rfl, rfl,
      rfl, rfl, rfl, rfl, rfl, rfl, rfl, rfl, rfl, rfl, rfl, rfl, rfl, rfl, rfl, rfl, rfl, rfl,
      (State.restarted_inFlight straps).trans State.heard_inFlight, rfl, rfl, rfl, rfl, rfl, rfl,
      State.restarted_pins straps⟩

end Sys2Proof.Machine

/-! SUPPORT. A valid feedback in CONFIG: no cause is raised, and under a frozen record the station leaves CONFIG (R79, R128,
R141, R150, R153, R181). -/

namespace Sys2Proof.Machine

variable {s : State} {fb : RawFeedback} {sent : Setpoint}

/-! No cause (R128, R150 to R153). -/

theorem feedback_causes_noClash (limit fault following : Bool) :
    (causeIf limit causeLimitSwitch ||| causeIf fault causeDriveFault ||| causeIf following causeFollowing) &&&
      causeNumberClash = 0 := by
  revert limit fault following
  decide

/-- No cause of a feedback is NUMBER_CLASH, which alone is latched in CONFIG (R128). -/
theorem State.raise_feedbackCauses_config (status : DriveStatus) (hst : s.halt.station = .config) (u : State) :
    s.raise (u.feedbackCauses status sent fb) = s := by
  have hnone : u.feedbackCauses status sent fb &&& causeNumberClash = 0 := feedback_causes_noClash _ _ _
  rw [State.raise_latches_numberClash _ hst, hnone]
  exact State.latch_none

/-! Leaving CONFIG (R79, R141, R181). -/

theorem State.leaveConfig_unfrozen (hrec : s.start.record = none) : s.leaveConfig = s :=
  if_neg fun h => by simp [State.frozen, hrec] at h

/-- The axis as the first feedback under a frozen record sets it: at rest at the measured position (R79). -/
def State.settledBlend (s : State) : Blend := { s.blend with x := fu s.port.measured, v := 0, atLimit := false }

theorem State.leaveConfig_run (hst : s.halt.station = .config) (hrec : s.start.record.isSome = true)
    (hclash : s.halt.causes &&& causeNumberClash ≠ causeNumberClash) :
    s.leaveConfig = (s.setBlend s.settledBlend).setHalt { s.halt with station := .run } := by
  rw [State.leaveConfig, if_pos ⟨hst, hrec⟩]
  exact if_neg (mt (causesHave_iff _ _).mp hclash)

theorem State.leaveConfig_halted (hst : s.halt.station = .config) (hrec : s.start.record.isSome = true)
    (hclash : s.halt.causes &&& causeNumberClash = causeNumberClash) :
    s.leaveConfig = (s.setBlend s.settledBlend).setHalt
      { s.halt with
        station := .halted
        record := some { origin := s.own, entryCauses := causeNumberClash, originCauses := causeNumberClash,
                         entryEpoch := s.halt.epoch } } := by
  rw [State.leaveConfig, if_pos ⟨hst, hrec⟩]
  exact if_pos ((causesHave_iff _ _).mpr hclash)

/-- Leaving CONFIG moves the axis and halt control only. -/
theorem State.leaveConfig_eq : s.leaveConfig = (s.setBlend s.leaveConfig.blend).setHalt s.leaveConfig.halt := by
  unfold State.leaveConfig
  split
  · dsimp only
    split <;> rfl
  · rfl

/-- A report in CONFIG carries velocity 0, and so does one of the axis set at rest on leaving it (R79, R167). -/
theorem State.leaveConfig_velocity (hst : s.halt.station = .config) : s.leaveConfig.makeReport.velocity = 0 := by
  cases hrec : s.start.record with
  | none =>
    rw [State.leaveConfig_unfrozen hrec]
    exact if_pos hst
  | some r =>
    have hfrozen : s.start.record.isSome = true := by rw [hrec]; rfl
    by_cases hclash : s.halt.causes &&& causeNumberClash = causeNumberClash
    · rw [State.leaveConfig_halted hst hfrozen hclash]
      rfl
    · rw [State.leaveConfig_run hst hfrozen hclash]
      rfl

/-- The report of a feedback leaves the preset store. -/
theorem State.reportFeedback_store : s.reportFeedback.store = s.store := by
  rw [State.reportFeedback_eq, State.watchReport_eq]
  rfl

/-! The feedback whole, in CONFIG (R150). -/

/-- The port with the feedback stored in CONFIG: no following check is made (R153). -/
def State.configPort (s : State) (sent : Setpoint) (fb : RawFeedback) : Port :=
  s.port.storeFeedback true s.record.feLimit (if fb.status = 0xA5 then .fault else .ok) sent fb

/-- The state with the feedback stored and CONFIG left where it is, before its report. -/
def State.configFeedback (s : State) (sent : Setpoint) (fb : RawFeedback) : State :=
  (s.setPort (s.configPort sent fb)).leaveConfig

theorem exec_validFeedback_config (hrst : s.pins.rstn = true) (hflight : s.port.inFlight = some sent)
    (hstatus : fb.status = 0x5A ∨ fb.status = 0xA5) (hecho : fb.echo = sent.sequence) (hst : s.halt.station = .config) :
    exec (.exchangeComplete fb) s = .next (s.configFeedback sent fb).reportFeedback.tryExchange := by
  rw [exec_exchangeComplete hrst hflight, State.judge_valid hstatus hecho, State.validFeedback, decide_eq_true hst,
    State.raise_feedbackCauses_config]
  · rfl
  · exact hst

/-- In CONFIG a valid feedback moves the drive port, halt control and the axis only, before its report. -/
theorem State.configFeedback_eq : s.configFeedback sent fb =
    ((s.setHalt (s.configFeedback sent fb).halt).setPort (s.configPort sent fb)).setBlend
      (s.configFeedback sent fb).blend := State.leaveConfig_eq

theorem State.configFeedback_frame :
    (s.configFeedback sent fb).store = s.store ∧ (s.configFeedback sent fb).next = s.next ∧
    (s.configFeedback sent fb).running = s.running ∧ (s.configFeedback sent fb).stick = s.stick ∧
    (s.configFeedback sent fb).peers = s.peers ∧ (s.configFeedback sent fb).mark = s.mark ∧
    (s.configFeedback sent fb).port = s.configPort sent fb ∧ (s.configFeedback sent fb).link = s.link ∧
    (s.configFeedback sent fb).start = s.start := by
  rw [State.configFeedback_eq]
  exact ⟨rfl, rfl, rfl, rfl, rfl, rfl, rfl, rfl, rfl⟩

theorem State.configFeedback_unfrozen (hrec : s.start.record = none) :
    (s.configFeedback sent fb).halt = s.halt ∧ (s.configFeedback sent fb).blend = s.blend := by
  rw [State.configFeedback, State.leaveConfig_unfrozen (s := s.setPort (s.configPort sent fb)) hrec]
  exact ⟨rfl, rfl⟩

theorem State.configFeedback_run (hst : s.halt.station = .config) (hrec : s.start.record.isSome = true)
    (hclash : s.halt.causes &&& causeNumberClash ≠ causeNumberClash) : s.configFeedback sent fb =
      ((s.setPort (s.configPort sent fb)).setBlend (s.setPort (s.configPort sent fb)).settledBlend).setHalt
        { s.halt with station := .run } := State.leaveConfig_run (s := s.setPort (s.configPort sent fb)) hst hrec hclash

theorem State.configFeedback_halted (hst : s.halt.station = .config) (hrec : s.start.record.isSome = true)
    (hclash : s.halt.causes &&& causeNumberClash = causeNumberClash) : s.configFeedback sent fb =
      ((s.setPort (s.configPort sent fb)).setBlend (s.setPort (s.configPort sent fb)).settledBlend).setHalt
        { s.halt with
          station := .halted
          record := some { origin := s.own, entryCauses := causeNumberClash, originCauses := causeNumberClash,
                           entryEpoch := s.halt.epoch } } :=
  State.leaveConfig_halted (s := s.setPort (s.configPort sent fb)) hst hrec hclash

theorem State.configFeedback_settles (hst : s.halt.station = .config) (hrec : s.start.record.isSome = true) :
    (s.configFeedback sent fb).blend =
      { x := fb.measured.toInt * 65536, v := 0, atLimit := false, taking := s.blend.taking } := by
  by_cases hclash : s.halt.causes &&& causeNumberClash = causeNumberClash
  · rw [State.configFeedback_halted hst hrec hclash]
    rfl
  · rw [State.configFeedback_run hst hrec hclash]
    rfl

/-- The own trigger reads of the feedback only the station state that it has left. -/
theorem State.configFeedback_watchReport (n : Station) (r : Report) :
    (s.configFeedback sent fb).watchReport n r =
      (((s.setHalt (s.configFeedback sent fb).halt).watchReport n r).setPort (s.configPort sent fb)).setBlend
        (s.configFeedback sent fb).blend :=
  (congrArg (State.watchReport n r) State.configFeedback_eq).trans
    (State.watchReport_comm n r (fun u => (u.setPort _).setBlend _) (fun _ _ => rfl) rfl rfl rfl)

/-- The own trigger evaluates the report in the station state that the feedback has left (R115). -/
theorem State.configFeedback_evaluates : ∃ u : State,
    (s.trigger.watched = s.own → u = (s.setHalt (s.configFeedback sent fb).halt).evaluateTrigger
      (s.configFeedback sent fb).halt.station fb.measured.toInt) ∧
    (s.trigger.watched ≠ s.own → u = s) ∧
    (s.configFeedback sent fb).reportFeedback.trigger = u.trigger ∧
    (s.configFeedback sent fb).reportFeedback.link.cueList = u.link.cueList ∧
    (s.configFeedback sent fb).reportFeedback.link.counters.outDrop = u.link.counters.outDrop := by
  obtain ⟨-, -, -, -, -, -, hport, -, hstart⟩ := State.configFeedback_frame (s := s) (sent := sent) (fb := fb)
  have hown : (s.configFeedback sent fb).own = s.own := congrArg Start.station hstart
  have hmeasured : (s.configFeedback sent fb).makeReport.measured = fb.measured.toInt := congrArg Port.measured hport
  rw [State.reportFeedback_eq, State.watchReport_placeState, hown, State.configFeedback_watchReport]
  by_cases hwatch : s.trigger.watched = s.own
  · refine ⟨_, fun _ => rfl, fun hother => absurd hwatch hother, ?_⟩
    rw [State.watchReport_watched (s := s.setHalt (s.configFeedback sent fb).halt) _ _ hwatch, hmeasured]
    exact ⟨rfl, rfl, rfl⟩
  · refine ⟨s, fun hown => absurd hown hwatch, fun _ => rfl, ?_⟩
    rw [State.watchReport_other (s := s.setHalt (s.configFeedback sent fb).halt) _ _ hwatch]
    exact ⟨rfl, rfl, rfl⟩

/-- Settles O46: the feedback stored with no cause raised, CONFIG left under a frozen record, and the report of what it
left. -/
theorem firstFeedbackLeavesConfig : Obligations.FirstFeedbackLeavesConfig := by
  intro fb sent s hrst hflight hstatus hecho hst
  refine ⟨_, (s.configFeedback sent fb).makeReport, exec_validFeedback_config hrst hflight hstatus hecho hst, ?_⟩
  obtain ⟨-, hnext, hrunning, hblend, hstick, hpeers, hmark, hhalt, hport, hstart⟩ :=
    State.reportFeedback_frame (s := s.configFeedback sent fb)
  obtain ⟨hstore', hnext', hrunning', hstick', hpeers', hmark', hport', hlink', hstart'⟩ :=
    State.configFeedback_frame (s := s) (sent := sent) (fb := fb)
  rw [State.tryExchange_port, State.tryExchange_halt, State.tryExchange_running, State.tryExchange_next,
    State.tryExchange_link, State.tryExchange_trigger, State.tryExchange_blend, State.tryExchange_stick,
    State.tryExchange_peers, State.tryExchange_mark, State.tryExchange_start, State.tryExchange_store,
    State.reportFeedback_store, hnext, hrunning, hblend, hstick, hpeers, hmark, hhalt, hstart,
    State.reportFeedback_haltSlot, State.reportFeedback_stateSlot, hport, hport']
  refine ⟨rfl, rfl, rfl, rfl, rfl, rfl, rfl, State.configFeedback_evaluates, rfl, rfl, rfl, rfl, rfl, rfl,
    congrArg Port.measured hport', State.leaveConfig_velocity hst, State.configFeedback_unfrozen,
    fun hrec => ⟨State.configFeedback_settles hst hrec, fun hclash => ?_, fun hclash => ?_⟩,
    congrArg Link.haltSlot hlink', hrunning', hnext', hstore', hstick', hpeers', hmark', hstart'⟩
  · rw [State.configFeedback_run hst hrec hclash]
    rfl
  · rw [State.configFeedback_halted hst hrec hclash]
    rfl

end Sys2Proof.Machine

/-! SUPPORT. What a command can do to the blocks that the invariants tie together: the moves of the preset store, the moves of
the cue slots, the axis, the trigger, halt control and the start record, each under the conditions its rule states. -/

namespace Sys2Proof.Machine

/-- One move of the preset store, from the store of state s. -/
inductive StoreMove (s : State) : Store → Prop
  /-- PRESET_OPEN (R7). -/
  | opens (n : Station) (p : Preset) (k : Nat) (f : ModeFields) (hfrozen : s.start.record.isSome = true)
      (hd : s.store.download = none) (hr : s.store.recording = none) (hc : s.store.compacting = false)
      (href : s.referenced p = false) (hk : 2 ≤ k) (hroom : s.store.hwm + k ≤ 1024) :
      StoreMove s (s.store.openDownload n p k f)
  /-- The lapse count of a download rises or restarts (R8, R10). -/
  | ages {d d' : Download} (hd : s.store.download = some d) (hp : d'.preset = d.preset)
      (hn : d'.nextIndex = d.nextIndex) : StoreMove s { s.store with download := some d' }
  /-- KEYFRAME_WRITE (R8). -/
  | writes {d d' : Download} {ks : List Keyframe} (hd : s.store.download = some d) (hp : d'.preset = d.preset)
      (hn : d'.nextIndex = d.nextIndex + ks.length)
      (hroom : d.nextIndex + ks.length ≤ (s.store.entry d.preset).count) :
      StoreMove s { s.store with
        pool := s.store.pool.writeAll ((s.store.entry d.preset).first + d.nextIndex) ks, download := some d' }
  /-- PRESET_CLOSE with every check passed (R9). -/
  | closes {d : Download} (hd : s.store.download = some d)
      (hchecks : closeFailure s.record.lo s.record.hi (s.store.entry d.preset).count d.nextIndex
        (s.store.keyframes d.preset) = none) :
      StoreMove s { s.store.setEntry d.preset { s.store.entry d.preset with state := .ready } with download := none }
  /-- A download is discarded: a check failed, it lapsed, or the part restarts (R9, R10, R24). -/
  | discards {d : Download} (hd : s.store.download = some d) :
      StoreMove s { s.store.free d.preset with download := none }
  /-- A recording starts (R11, R12). -/
  | records (p : Preset) (interval : Nat) (hrun : s.halt.station = .run) (hd : s.store.download = none)
      (hr : s.store.recording = none) (hc : s.store.compacting = false) (href : s.referenced p = false)
      (hroom : s.store.hwm + 2 ≤ 1024) : StoreMove s (s.startRecording p interval).store
  /-- The elapsed count of a recording rises (R13). -/
  | ticks {r : Recording} (hr : s.store.recording = some r) :
      StoreMove s { s.store with recording := some { r with elapsed := r.elapsed + 1 } }
  /-- A keyframe is captured at a due expiry or at the end of a recording (R13, R15). -/
  | captures {r r' : Recording} (hr : s.store.recording = some r)
      (hr' : r' = r ∧ r.elapsed ≠ r.lastCapture ∨ r' = { r with elapsed := r.elapsed + 1 })
      (hroom : s.store.hwm < 1024) : StoreMove s (s.capture r' r'.elapsed).store
  /-- A recording ends READY (R15). -/
  | finishes {r : Recording} {p : Preset} (b : Bool) (hr : s.store.recording = some r) (hp : p = r.preset)
      (hcount : 2 ≤ (s.store.entry p).count) :
      StoreMove s { s.store.setEntry p { s.store.entry p with state := .ready, truncated := b } with
        recording := none }
  /-- A recording ends too short (R15). -/
  | abandons {r : Recording} {p : Preset} (hr : s.store.recording = some r) (hp : p = r.preset) :
      StoreMove s { s.store.free p with recording := none }
  /-- PRESET_ERASE (R16). -/
  | erases {p : Preset} (hp : (s.store.entry p).state = .ready) (href : s.referenced p = false) :
      StoreMove s (s.store.free p)
  /-- PRESET_EDIT (R17). -/
  | edits {p : Preset} (f : ModeFields) (hp : (s.store.entry p).state = .ready) :
      StoreMove s (s.store.setEntry p { s.store.entry p with fields := f })
  /-- POOL_COMPACT (R20). -/
  | compacts (hn : s.next.state = .empty) (hrun : s.running.state = .idle) (hd : s.store.download = none)
      (hr : s.store.recording = none) : StoreMove s { s.store with compacting := true }
  /-- COMPACTION_COMPLETE (R21, R23). -/
  | completes (hc : s.store.compacting = true) : StoreMove s s.completeCompaction.store

/-- The blocks that the invariants tie together stand in t as in s. What may differ lies in the drive port, the link
interface, the stick record, the peer table, the mark unit and the level of DRDY. -/
structure State.SameBlocks (s t : State) : Prop where
  pending : t.pending = s.pending
  rstn : t.pins.rstn = s.pins.rstn
  store : t.store = s.store
  next : t.next = s.next
  running : t.running = s.running
  blend : t.blend = s.blend
  trigger : t.trigger = s.trigger
  halt : t.halt = s.halt
  start : t.start = s.start

/-- Halt control at the entry to HALTING, and what the blocks but the store do at it (R53, R79, R119, R132). -/
def State.leaveRun (v : Halt) (s : State) : State :=
  (((s.setHalt v).idleCue).setNext s.next.backToLoaded).setTrigger { s.trigger with state := .disarmed }

/-- The start record frozen, with the preset store's part of the freezing (R23, R179, R180). -/
def State.frozenWith (w : StartRecord) (s : State) : State :=
  (s.setStart { s.start with record := some w, staged := none }).setStore (s.store.checkFrozen w)

/-- One move of a state. -/
inductive Move (s : State) : State → Prop
  | aside {t : State} (h : s.SameBlocks t) : Move s t
  | store {st : Store} (h : StoreMove s st) : Move s (s.setStore st)
  /-- LOAD (R31). -/
  | loads (p : Preset) (id : Byte) (c : StartCondition) (hst : s.halt.station ≠ .config)
      (hc : s.store.compacting = false) (hp : (s.store.entry p).state = .ready) :
      Move s (s.setNext { state := .loaded, preset := p, cueId := id, condition := c })
  /-- SEEK and its completion (R32, R33). -/
  | seeks (c : NextState) (hc : c = .seeking ∨ c = .ready) (hrun : s.halt.station = .run)
      (hidle : s.running.state = .idle) (hn : s.next.state ≠ .empty) : Move s (s.setNext { s.next with state := c })
  /-- A seek is abandoned (R34, R94). -/
  | unseeks : Move s (s.setNext s.next.backToLoaded)
  /-- The cue of NEXT starts (R36 to R38, R47). -/
  | starts (m : StationMask) (hrun : s.halt.station = .run) (hn : s.next.state ≠ .empty) : Move s (s.startCue m)
  /-- The cue ends (R39, R47, R53). -/
  | idles : Move s s.idleCue
  /-- A running cue goes on (R40 to R52, R61 to R67). -/
  | runs (r : RunningSlot) (hs : s.running.state ≠ .idle) (hr : r.state ≠ .idle) (hp : r.preset = s.running.preset) :
      Move s (s.setRunning r)
  /-- The axis moves, or comes to rest (R56 to R80). -/
  | blends (b : Blend) (htaking : b.taking = s.blend.taking ∨ s.running.state ≠ .idle)
      (hv : b.v = 0 ∨ s.halt.station = .run ∨ s.halt.station = .halting) : Move s (s.setBlend b)
  /-- The trigger is armed, waits, or is disarmed (R114 to R118). -/
  | triggers (k : Trigger) (hrun : k.state = .armed → s.halt.station = .run)
      (hc : s.halt.station = .config → k.state = .disarmed) : Move s (s.setTrigger k)
  /-- Causes are latched or cleared outside RUN, and the epoch is told (R128, R136, R137). -/
  | latches (c : Causes) (e : Byte)
      (h : c = s.halt.causes ∨ s.halt.station = .halting ∨ s.halt.station = .halted ∨
        s.halt.station = .config ∧ ∃ d, c = s.halt.causes ||| d &&& causeNumberClash) :
      Move s (s.setHalt { s.halt with causes := c, epoch := e })
  /-- The entry to HALTING, with no recording left (R132). -/
  | halts (v : Halt) (hr : s.store.recording = none) (hrun : s.halt.station = .run) (hv : v.station = .halting)
      (hrec : v.record.isSome = true) : Move s (s.leaveRun v)
  /-- HALTED is reached from HALTING, or from CONFIG with its halt record (R133, R141). -/
  | rests (v : Halt) (hv : v.station = .halted) (hrest : s.blend.v = 0)
      (h : s.halt.station = .halting ∧ v.record = s.halt.record ∨
        s.halt.station = .config ∧ s.start.record.isSome = true ∧ v.record.isSome = true) : Move s (s.setHalt v)
  /-- RUN is entered from HALTED with no cause, or from CONFIG with the record frozen (R137, R138, R181). -/
  | enters (h : s.halt.station = .halted ∧ s.halt.causes = 0 ∨
        s.halt.station = .config ∧ s.start.record.isSome = true ∧ causesHave s.halt.causes causeNumberClash = false) :
      Move s (s.setHalt { s.halt with station := .run })
  /-- Section 1 is staged (R178). -/
  | stages (q : Section1) (hrec : s.start.record = none) (hq : q.lo < q.hi) :
      Move s (s.setStart { s.start with staged := some q })
  /-- The record is frozen (R179, R180). -/
  | freezes (w : StartRecord) (hst : s.halt.station = .config) (hw : s.start.staged = some w.toSection1) :
      Move s (s.frozenWith w)
  /-- RESTART, with no recording left (R184). -/
  | restarts (straps : Station) (hr : s.store.recording = none) : Move s (s.restarted straps)

/-- Moves one after another. -/
abbrev Moves : State → State → Prop := Relation.ReflTransGen Move

/-! What no move touches. -/

variable {s t : State}

theorem Move.outside (h : Move s t) : t.pending = s.pending ∧ t.pins.rstn = s.pins.rstn := by
  cases h with
  | aside h => exact ⟨h.pending, h.rstn⟩
  | restarts straps hr => exact ⟨State.endRecording_pending, congrArg Pins.rstn State.endRecording_pins⟩
  | store | loads | seeks | unseeks | starts | idles | runs | blends | triggers | latches | halts | rests | enters |
      stages | freezes => exact ⟨rfl, rfl⟩

/-- No moves touch the queue or the RSTN pin. -/
theorem Moves.outside (h : Moves s t) : t.pending = s.pending ∧ t.pins.rstn = s.pins.rstn := by
  induction h with
  | refl => exact ⟨rfl, rfl⟩
  | tail _ hmove ih => exact ⟨hmove.outside.1.trans ih.1, hmove.outside.2.trans ih.2⟩

end Sys2Proof.Machine

/-! SUPPORT. Each shared operation, frame and request is a sequence of moves. -/

namespace Sys2Proof.Machine

open Relation (ReflTransGen)

variable {s : State}

/-! The blocks that no invariant ties to another. -/

theorem moves_setLink (l : Link) : Moves s (s.setLink l) := .single (.aside ⟨rfl, rfl, rfl, rfl, rfl, rfl, rfl, rfl, rfl⟩)
theorem moves_setPort (p : Port) : Moves s (s.setPort p) := .single (.aside ⟨rfl, rfl, rfl, rfl, rfl, rfl, rfl, rfl, rfl⟩)
theorem moves_setStick (k : Stick) : Moves s (s.setStick k) := .single (.aside ⟨rfl, rfl, rfl, rfl, rfl, rfl, rfl, rfl, rfl⟩)
theorem moves_setPeers (p : Peers) : Moves s (s.setPeers p) := .single (.aside ⟨rfl, rfl, rfl, rfl, rfl, rfl, rfl, rfl, rfl⟩)
theorem moves_setMark (m : Mark) : Moves s (s.setMark m) := .single (.aside ⟨rfl, rfl, rfl, rfl, rfl, rfl, rfl, rfl, rfl⟩)
theorem moves_setDrdy (b : Bool) : Moves s (s.setPins { s.pins with drdy := b }) :=
  .single (.aside ⟨rfl, rfl, rfl, rfl, rfl, rfl, rfl, rfl, rfl⟩)

theorem moves_mapCounters (f : Counters → Counters) : Moves s (s.mapCounters f) := moves_setLink _
theorem moves_countMiss : Moves s s.countMiss := moves_setLink _
theorem moves_placeState (r : Report) : Moves s (s.placeState r) := moves_setLink _
theorem moves_placeReply (r : Reply) : Moves s (s.placeReply r) := moves_setLink _
theorem moves_countArrival (bad : Bool) : Moves s (s.countArrival bad) := moves_setLink _

theorem moves_placeCue (f : CueFrame) : Moves s (s.placeCue f) := by
  unfold State.placeCue
  split
  · exact moves_setLink _
  · exact moves_setLink _

theorem moves_tryExchange : Moves s s.tryExchange := by
  rw [State.tryExchange_eq]
  exact moves_setPort _

/-! Recordings (R11 to R15). -/

theorem moves_closeRecording {r r' : Recording} (hr : s.store.recording = some r) (hp : r'.preset = r.preset) (b : Bool) :
    Moves s (s.closeRecording r' b) := by
  unfold State.closeRecording
  split
  · rename_i hcount
    exact .single (.store (.finishes b hr hp hcount))
  · exact (ReflTransGen.single (.store (.abandons hr hp))).trans moves_countMiss

theorem moves_capture {r r' : Recording} (hr : s.store.recording = some r)
    (hr' : r' = r ∧ r.elapsed ≠ r.lastCapture ∨ r' = { r with elapsed := r.elapsed + 1 }) (hroom : s.store.hwm < 1024) :
    Moves s (s.capture r' r'.elapsed) := .single (.store (.captures hr hr' hroom))

theorem moves_endRecording : Moves s s.endRecording := by
  unfold State.endRecording
  split
  · exact .refl
  · rename_i r hr
    split
    · rename_i hfinal
      exact (moves_capture hr (.inl ⟨rfl, hfinal.1⟩) hfinal.2).trans
        (moves_closeRecording (s := s.capture r r.elapsed) (r := { r with lastCapture := r.elapsed }) rfl rfl false)
    · exact moves_closeRecording hr rfl false

theorem moves_recordExpiry : Moves s s.recordExpiry := by
  unfold State.recordExpiry
  split
  · exact .refl
  · rename_i r hr
    dsimp only
    split
    · exact moves_closeRecording hr rfl true
    · rename_i hlimit
      split
      · rename_i hdue
        exact moves_capture (r' := { r with elapsed := r.elapsed + 1 }) hr (.inr rfl)
          (Nat.lt_of_not_le fun hfull => hlimit (.inr ⟨hdue, hfull⟩))
      · exact .single (.store (.ticks hr))

/-! The download (R10). -/

theorem moves_discardDownload : Moves s (s.setStore s.store.discardDownload) := by
  unfold Store.discardDownload
  split
  · exact .refl
  · rename_i d hd
    exact .single (.store (.discards hd))

theorem moves_downloadExpiry : Moves s s.downloadExpiry := by
  unfold State.downloadExpiry
  split
  · exact .refl
  · rename_i d hd
    split
    · exact moves_discardDownload.trans (moves_setLink _)
    · exact .single (.store (.ages hd rfl rfl))

/-! The cue slots (R29 to R42, R45 to R47). -/

theorem moves_restartPass (h : s.running.state ≠ .idle) : Moves s s.restartPass := .single (.runs _ h h rfl)

theorem moves_endCue (hrun : s.halt.station = .run) : Moves s s.endCue := by
  unfold State.endCue
  split
  · rename_i hfollow
    exact (ReflTransGen.single .idles).tail (.starts (s := s.idleCue) _ hrun (by
      show s.next.state ≠ .empty
      rw [hfollow.1]
      decide))
  · exact .single .idles

theorem moves_endPass (hrun : s.halt.station = .run) (h : s.running.state ≠ .idle) : Moves s s.endPass := by
  unfold State.endPass
  split
  · exact moves_restartPass h
  · exact moves_endCue hrun

theorem moves_actLoad (id preset cond : Byte) : Moves s (s.actLoad id preset cond) := by
  unfold State.actLoad
  split
  · split
    · rename_i hload
      obtain ⟨hst, hc, hp, -⟩ := hload
      exact .single (.loads _ _ _ hst (Bool.eq_false_of_not_eq_true hc) hp)
    · exact moves_countMiss
  · exact moves_countMiss

theorem moves_actSeek (id : Byte) : Moves s (s.actSeek id) := by
  unfold State.actSeek
  split
  · rename_i hseek
    obtain ⟨hrun, hidle, hn, -⟩ := hseek
    split
    · exact .single (.seeks _ (.inl rfl) hrun hidle hn)
    · exact .refl
  · exact moves_countMiss

theorem moves_actGo (m : StationMask) (id : Byte) : Moves s (s.actGo m id) := by
  unfold State.actGo
  split
  · rename_i hgo
    obtain ⟨hrun, hn, -⟩ := hgo
    exact .single (.starts m hrun hn)
  · exact moves_countMiss

theorem moves_actStop (id : Byte) : Moves s (s.actStop id) := by
  unfold State.actStop
  split
  · exact .single .idles
  · exact moves_countMiss

/-- HOLD, RELEASE and LOOP_END act on a running cue and keep it running. -/
theorem moves_named {id : Byte} {r : RunningSlot} (h : s.halt.station = .run ∧ s.running.named id = true)
    (hr : s.running.state ≠ .idle → r.state ≠ .idle) (hp : r.preset = s.running.preset) : Moves s (s.setRunning r) := by
  have hplays := ((RunningSlot.named_iff _ id).mp h.2).1
  exact .single (.runs r hplays (hr hplays) hp)

theorem moves_actHold (id : Byte) : Moves s (s.actHold id) := by
  unfold State.actHold
  split
  · rename_i h
    exact moves_named h (fun _ => nofun) rfl
  · exact moves_countMiss

theorem moves_actRelease (id : Byte) : Moves s (s.actRelease id) := by
  unfold State.actRelease
  split
  · rename_i h
    exact moves_named h (fun _ => nofun) rfl
  · exact moves_countMiss

theorem moves_actLoopEnd (id : Byte) : Moves s (s.actLoopEnd id) := by
  unfold State.actLoopEnd
  split
  · rename_i h
    exact moves_named h (fun hplays => hplays) rfl
  · exact moves_countMiss

theorem moves_actRecStart (preset interval : Byte) : Moves s (s.actRecStart preset interval) := by
  unfold State.actRecStart
  split
  · split
    · rename_i p _ h
      obtain ⟨-, hrun, hd, hr, hc, href, hroom⟩ := h
      exact .single (.store (.records p interval.toNat hrun (Option.isNone_iff_eq_none.mp hd)
        (Option.isNone_iff_eq_none.mp hr) (Bool.eq_false_of_not_eq_true hc) (Bool.eq_false_of_not_eq_true href) hroom))
    · exact moves_countMiss
  · exact moves_countMiss

theorem moves_actRecStop : Moves s s.actRecStop := by
  unfold State.actRecStop
  split
  · exact moves_endRecording
  · exact moves_countMiss

theorem moves_inMask (m : StationMask) {act : State → State} (hact : Moves s (act s)) : Moves s (s.inMask m act) := by
  unfold State.inMask
  split
  · exact hact
  · exact .refl

/-! Halt control (R128 to R132) and the trigger (R115 to R117). -/

theorem moves_enterHalting {v : Halt} (hrun : s.halt.station = .run) (hv : v.station = .halting)
    (hrec : v.record.isSome = true) : Moves s (s.enterHalting.setHalt v) := by
  have hleave : s.enterHalting.setHalt v = s.endRecording.leaveRun v := rfl
  rw [hleave]
  exact moves_endRecording.tail
    (.halts v State.endRecording_recording (by rw [State.endRecording_halt]; exact hrun) hv hrec)

theorem moves_localFault (c : Causes) (hrun : s.halt.station = .run) : Moves s (s.localFault c) := by
  rw [State.localFault_eq]
  exact (moves_enterHalting hrun rfl rfl).trans (moves_setLink _)

/-- Outside RUN and CONFIG a cause is only latched. -/
theorem moves_latch (c : Causes) (h : s.halt.station = .halting ∨ s.halt.station = .halted) : Moves s (s.latch c) :=
  .single (.latches _ s.halt.epoch (.inr (by tauto)))

theorem moves_raise (c : Causes) : Moves s (s.raise c) := by
  unfold State.raise
  split
  · exact .refl
  · split
    · rename_i hrun
      exact moves_localFault c hrun
    · rename_i hst
      exact moves_latch c (.inl hst)
    · rename_i hst
      exact moves_latch c (.inr hst)
    · rename_i hst
      exact .single (.latches _ s.halt.epoch (.inr (.inr (.inr ⟨hst, c, rfl⟩))))

theorem moves_haltFromOutside (c : Causes) (origin : Station) (oc : Causes) : Moves s (s.haltFromOutside c origin oc) := by
  cases hst : s.halt.station with
  | run =>
    rw [State.haltFromOutside_run_eq hst]
    exact moves_enterHalting hst rfl rfl
  | halting =>
    rw [State.haltFromOutside_halting (.inl hst)]
    exact moves_latch c (.inl hst)
  | halted =>
    rw [State.haltFromOutside_halting (.inr hst)]
    exact moves_latch c (.inr hst)
  | config =>
    rw [State.haltFromOutside_config hst]

theorem moves_evaluateTrigger (reported : StationState) (p : Int) : Moves s (s.evaluateTrigger reported p) := by
  unfold State.evaluateTrigger
  split
  · rename_i h
    split
    · exact .refl
    · split
      · exact .single (.triggers _ (fun _ => h.1) fun hc => nomatch h.1.symm.trans hc)
      · exact .refl
    · split
      · exact (moves_placeCue _).tail (.triggers { s.trigger with state := .disarmed } nofun fun _ => rfl)
      · exact .refl
  · exact .refl

/-! Arrivals and requests (R168, R170, R172). -/

theorem moves_arriveUnless (deaf : Bool) (n : Station) {act : State → State} (hact : ∀ u : State, Moves u (act u)) :
    Moves s (s.arriveUnless deaf n act) := by
  unfold State.arriveUnless
  split
  · exact .refl
  · split
    · exact (moves_countArrival false).trans (moves_raise _)
    · exact (moves_countArrival false).trans (hact _)

theorem moves_arrive (n : Station) {act : State → State} (hact : ∀ u : State, Moves u (act u)) : Moves s (s.arrive n act) :=
  moves_arriveUnless _ n hact

theorem moves_arriveInMask (n : Station) (m : StationMask) {act : State → State} (hact : ∀ u : State, Moves u (act u)) :
    Moves s (s.arrive n (State.inMask m act)) := moves_arrive n fun u => moves_inMask m (hact u)

theorem moves_takeRequest (header : ReqHeader) (kind : Byte) {owner : State → Answer}
    (howner : Moves s (owner s).after) : Moves s (s.takeRequest header kind owner) := by
  unfold State.takeRequest
  split
  · exact .refl
  · split
    · exact moves_mapCounters _
    · exact howner.trans (moves_placeReply _)

theorem moves_request (header : ReqHeader) (kind : Byte) {owner : State → Answer}
    (howner : ∀ u : State, Moves u (owner u).after) : Moves s (s.request header kind owner) :=
  moves_arrive _ fun u => moves_takeRequest header kind (howner u)

theorem moves_withArgs {α : Type} (args : Sized α) {owner : α → State → Answer} (howner : ∀ a, Moves s (owner a s).after) :
    Moves s (State.withArgs args owner s).after := by
  cases args with
  | wrongLength => exact .refl
  | fields a => exact howner a

theorem moves_requestArgs {α : Type} (header : ReqHeader) (kind : Byte) (args : Sized α) {owner : α → State → Answer}
    (howner : ∀ a (u : State), Moves u (owner a u).after) : Moves s (s.request header kind (State.withArgs args owner)) :=
  moves_request header kind fun u => moves_withArgs args fun a => howner a u

end Sys2Proof.Machine


/-! SUPPORT. An expiry, an exchange, and every frame and request past the number test are moves. -/

namespace Sys2Proof.Machine

open Relation (ReflTransGen)

variable {s : State}

/-! The expiry (R43, R56, R76, R77, R133). -/

theorem moves_ageExpiry : Moves s s.ageExpiry :=
  ((moves_setStick s.stick.age).trans ((moves_setPeers _).trans (moves_setPeers _))).trans moves_downloadExpiry

theorem moves_cueExpiry : Moves s s.cueExpiry := by
  unfold State.cueExpiry
  split
  · exact .refl
  · rename_i hplays
    exact .single (.runs _ hplays hplays rfl)

/-- The travel clamp keeps the take target. -/
theorem travelClamp_taking (lo hi : Int) (b : Blend) (v : Int) : (travelClamp lo hi b v).taking = b.taking := by
  unfold travelClamp
  split
  · rfl
  · split <;> rfl

/-- A running cue keeps its state and preset through the modes (R61 to R67). -/
theorem catchStep_modeStep_keeps (r : StartRecord) (sup : Supply) (p : Int) (taking : Bool) (run : RunningSlot) :
    (catchStep r (modeStep r sup p taking run)).state = run.state ∧
    (catchStep r (modeStep r sup p taking run)).preset = run.preset := by
  rw [modeStep_keeps]
  exact ⟨rfl, rfl⟩

theorem moves_blendRun (sup : Supply) (hrun : s.halt.station = .run) : Moves s (s.blendRun sup) := by
  unfold State.blendRun
  split
  · exact .single (.blends _ (.inl (travelClamp_taking ..)) (.inr (.inl hrun)))
  · exact .single (.blends _ (.inl (travelClamp_taking ..)) (.inr (.inl hrun)))
  · rename_i hcue
    have hplays : s.running.state ≠ .idle := fun hidle => by
      unfold State.source at hcue
      rw [if_neg (not_not.mpr hidle)] at hcue
      split at hcue <;> cases hcue
    dsimp only
    generalize hr : catchStep s.record (modeStep _ _ _ _ _) = r
    obtain ⟨hstate, hpreset⟩ := catchStep_modeStep_keeps s.record sup
      (presetPosition (s.store.keyframes s.running.preset) s.running.cueTime)
      (if s.running.mode = .take then takingStep s.record sup s.running s.blend.taking else s.blend.taking) s.running
    rw [hr] at hstate hpreset
    have hr' : r.state ≠ .idle := by rwa [hstate]
    exact (ReflTransGen.single (.runs r hplays hr' hpreset)).tail (.blends _ (.inr hr') (.inr (.inl hrun)))

theorem moves_readSetpoint (hrun : s.halt.station = .run) : Moves s s.readSetpoint := by
  have hrun' : s.recordExpiry.halt.station = .run := by rw [State.recordExpiry_eq]; exact hrun
  refine moves_recordExpiry.trans ?_
  unfold State.readSetpoint State.seekTest State.passTest
  dsimp only
  split
  · rename_i hidle
    split
    · rename_i hpasses
      exact .single (.seeks _ (.inr rfl) hrun' hidle (by rw [(State.seekPasses_iff.mp hpasses).2.1]; decide))
    · exact .refl
  · rename_i hplays
    split
    · exact moves_endPass hrun' hplays
    · exact .refl

theorem moves_computeExpiry (sup : Supply) : Moves s (s.computeExpiry sup) := by
  unfold State.computeExpiry
  split
  · rename_i hrun
    have hcue : s.cueExpiry.halt.station = .run := by rw [State.cueExpiry_eq]; exact hrun
    have hblend : (s.cueExpiry.blendRun sup).halt.station = .run := by rw [State.blendRun_eq]; exact hcue
    exact (moves_cueExpiry.trans (moves_blendRun sup hcue)).trans (moves_readSetpoint hblend)
  · rename_i hhalting
    have hb : Move s s.blendHalting := .blends _ (.inl (travelClamp_taking ..)) (.inr (.inr hhalting))
    unfold State.computeHalting
    dsimp only
    split
    · rename_i hrest
      exact (ReflTransGen.single hb).tail (.rests _ rfl hrest (.inl ⟨hhalting, rfl⟩))
    · exact .single hb
  · exact .single (.blends _ (.inl rfl) (.inl rfl))
  · exact .refl

/-! The drive port (R146 to R153). -/

theorem moves_missExchange : Moves s s.missExchange :=
  ((moves_setPort _).trans (moves_mapCounters _)).trans (moves_raise _)

theorem moves_handOver (position velocity : Int) (enable halting : Bool) :
    Moves s (s.handOver position velocity enable halting) := by
  have hhanded : Moves s (s.setPort (s.port.handed position velocity enable halting)) := moves_setPort _
  by_cases hp : s.port.pendingRecord = none
  · rw [State.handOver_fresh _ _ _ _ hp]
    exact hhanded.trans moves_tryExchange
  · rw [State.handOver_replaces _ _ _ _ (Option.isSome_iff_ne_none.mpr hp)]
    exact (hhanded.trans moves_missExchange).trans moves_tryExchange

theorem moves_expiry : Moves s s.expiry := by
  refine moves_ageExpiry.trans ((moves_computeExpiry s.stickSupply).trans ?_)
  have hreport : Moves s.computed (s.computed.lostReport s.reportDue) := by
    unfold State.lostReport
    split
    · exact moves_placeState _
    · exact .refl
  exact hreport.trans ((moves_setPort _).trans (moves_handOver _ _ _ _))

/-- A row that names an event of an expiry is that expiry, or no change. -/
theorem moves_expiryIf (p : Prop) [Decidable p] : Moves s (if p then s.expiry else s) := by
  split
  · exact moves_expiry
  · exact .refl

theorem moves_leaveConfig : Moves s s.leaveConfig := by
  unfold State.leaveConfig
  split
  · rename_i h
    obtain ⟨hst, hfrozen⟩ := h
    refine (ReflTransGen.single (.blends { s.blend with x := fu s.port.measured, v := 0, atLimit := false } (.inl rfl)
      (.inl rfl))).trans ?_
    dsimp only
    split
    · exact .single (.rests _ rfl rfl (.inr ⟨hst, hfrozen, rfl⟩))
    · rename_i hclash
      exact .single (.enters (.inr ⟨hst, hfrozen, Bool.eq_false_of_not_eq_true hclash⟩))
  · exact .refl

theorem moves_reportFeedback : Moves s s.reportFeedback := by
  unfold State.reportFeedback
  dsimp only
  split
  · exact (moves_placeState _).trans (moves_evaluateTrigger _ _)
  · exact moves_placeState _

theorem moves_judge (sent : Setpoint) (fb : RawFeedback) : Moves s (s.judge sent fb) := by
  have hbad : Moves s s.badFeedback := (moves_setPort _).trans moves_missExchange
  unfold State.judge
  split
  · exact hbad
  · split
    · exact (((moves_setPort _).trans (moves_raise _)).trans moves_leaveConfig).trans moves_reportFeedback
    · exact hbad

/-! HALT, RESUME and STATE (R99, R100, R130, R131, R136 to R138). -/

theorem moves_actHalt (origin causes : Byte) : Moves s (s.actHalt origin causes) := by
  unfold State.actHalt
  split
  · exact moves_haltFromOutside _ _ _
  · exact .refl

theorem moves_actResume (epoch : Byte) : Moves s (s.actResume epoch) := by
  unfold State.actResume
  split
  · rename_i hst
    have hcleared : Move s (s.setHalt { s.halt with epoch := epoch, causes := s.remaining }) :=
      .latches _ _ (.inr (.inr (.inl hst)))
    dsimp only
    split
    · rename_i hnone
      exact ((ReflTransGen.single hcleared).tail (.enters (.inl ⟨hst, hnone⟩))).tail (.blends _ (.inl rfl) (.inl rfl))
    · exact .single hcleared
  · exact .single (.latches s.halt.causes epoch (.inl rfl))

theorem moves_joinSeen (n : Station) (r : Report) : Moves s (s.joinSeen n r) := by
  unfold State.joinSeen
  split
  · rename_i h
    exact .single (.runs _ h.1 h.1 rfl)
  · exact .refl

theorem moves_watchReport (n : Station) (r : Report) : Moves s (s.watchReport n r) := by
  unfold State.watchReport
  split
  · exact moves_evaluateTrigger _ _
  · exact .refl

theorem moves_haltReport (n : Station) (r : Report) : Moves s (s.haltReport n r) := by
  unfold State.haltReport
  split
  · split
    · exact .refl
    · exact .single (.latches s.halt.causes r.epoch (.inl rfl))
  · split
    · exact moves_haltFromOutside _ _ _
    · exact .refl

theorem moves_actState (n : Station) (raw : RawReport) (haltFirst : Bool) : Moves s (s.actState n raw haltFirst) := by
  unfold State.actState
  split
  · exact .refl
  · rename_i r _
    have hwritten : Moves s (s.writePeer n r) := moves_setPeers _
    refine hwritten.trans ((moves_joinSeen n r).trans ?_)
    unfold State.handReport
    dsimp only
    split
    · exact (moves_haltReport n r).trans (moves_watchReport n r)
    · exact (moves_watchReport n r).trans (moves_haltReport n r)

/-! STICK (R82 to R87). -/

theorem moves_abandonSeek : Moves s s.abandonSeek := by
  unfold State.abandonSeek
  split
  · exact .single .unseeks
  · exact .refl

theorem moves_decideChannel (n : Station) (sequence : Byte) (c : Channel) : Moves s (s.decideChannel n sequence c) := by
  unfold State.decideChannel
  split
  · split
    · exact .refl
    · exact (moves_setStick _).trans moves_abandonSeek
  · split
    · split
      · exact moves_setStick _
      · exact (moves_setStick _).trans moves_abandonSeek
    · exact (moves_mapCounters _).trans (moves_setStick _)

theorem moves_checkSequence (n : Station) (sequence : Byte) : Moves s (s.checkSequence n sequence) := by
  unfold State.checkSequence
  split
  · exact (moves_mapCounters _).trans (moves_setStick _)
  · exact .refl

theorem moves_actStick (n : Station) (sequence : Byte) (channels : List Channel) :
    Moves s (s.actStick n sequence channels) := by
  unfold State.actStick
  split
  · exact .refl
  · refine (moves_checkSequence n sequence).trans ?_
    dsimp only
    split
    · exact .refl
    · exact moves_decideChannel n sequence _

/-! The line (R161 to R166). -/

theorem moves_ownSlot (others : Option Byte) : Moves s (s.ownSlot others) := by
  unfold State.ownSlot
  split
  · exact .refl
  · split
    · exact moves_setLink _
    · split
      · exact moves_setLink _
      · exact moves_setLink _

theorem moves_completeFrame (f : Frame) : Moves s (s.completeFrame f) := by
  unfold State.completeFrame
  split
  · exact moves_inMask _ (moves_actGo _ _)
  · exact moves_inMask _ (moves_actStop _)
  · exact .refl
  · exact .refl
  · exact .refl

/-! The mark unit (R120 to R125). -/

theorem moves_restand : Moves s s.restand := by
  rw [State.restand_eq]
  exact moves_setMark _

theorem moves_markActionRun : Moves s s.markActionRun := by
  unfold State.markActionRun
  split
  · split
    · exact moves_countMiss
    · exact moves_placeCue _
  · exact moves_placeCue _
  · exact moves_raise _

theorem moves_markActionHalted : Moves s s.markActionHalted := by
  unfold State.markActionHalted
  split
  · exact .refl
  · exact .refl
  · exact moves_raise _

theorem moves_markFiring : Moves s s.markFiring := by
  refine (moves_setMark { s.mark with latched := some s.mark.accepted }).trans ?_
  unfold State.markFiring
  dsimp only
  split
  · exact moves_markActionRun
  · exact moves_markActionHalted
  · exact moves_markActionHalted
  · exact .refl

/-! The start record and RESTART (R178 to R184). -/

/-- Where no check of a list fails, every check of it holds. -/
theorem holds_of_firstFailing_none {checks : List (Nat × Bool)} (h : firstFailing checks = none) :
    ∀ c ∈ checks, c.2 = true := by
  induction checks with
  | nil => exact nofun
  | cons c rest ih =>
    unfold firstFailing at h
    split at h
    · rename_i hok
      exact List.forall_mem_cons.mpr ⟨hok, ih h⟩
    · cases h

/-- A section 1 that passes its checks has a soft range: check 7 compares its ends (R177). -/
theorem section1Of_range {r : RawSection1} (h : firstFailing (section1Checks r) = none) :
    (section1Of r).lo < (section1Of r).hi := by
  have hcheck := holds_of_firstFailing_none h (7, r.lo.toInt < r.hi.toInt) (by simp [section1Checks])
  exact of_decide_eq_true hcheck

theorem moves_section1Answer (r : RawSection1) : Moves s (section1Answer r s).after := by
  unfold section1Answer
  split
  · exact .refl
  · rename_i hopen
    have hrec : s.start.record = none := by
      by_contra hne
      exact hopen (State.recordClosed_iff.mpr (.inr (Option.isSome_iff_ne_none.mpr hne)))
    split
    · exact .refl
    · rename_i hpass
      exact .single (.stages _ hrec (section1Of_range hpass))

theorem moves_section1ArgsAnswer (args : SectionArgs RawSection1) : Moves s (section1ArgsAnswer args s).after := by
  cases args with
  | wrongLength => exact .refl
  | badSection n => exact .refl
  | fields r => exact moves_section1Answer r

theorem moves_freeze (w : StartRecord) (hst : s.halt.station = .config) (hw : s.start.staged = some w.toSection1) :
    Moves s (s.freeze w) :=
  (((ReflTransGen.single (.freezes w hst hw)).trans (moves_setPeers (s.peers.remarked w)))).trans moves_restand

theorem moves_section2Answer (r : RawSection2) : Moves s (section2Answer r s).after := by
  unfold section2Answer
  split
  · exact .refl
  · rename_i hopen
    split
    · exact .refl
    · rename_i q hq
      split
      · exact .refl
      · exact moves_freeze _ (State.config_of_open hopen) hq

/-- RESTART ends a recording first, and what it then does is a RESTART with no recording left (R184). -/
theorem State.restarted_endRecording (straps : Station) : s.endRecording.restarted straps = s.restarted straps := by
  unfold State.restarted
  rw [State.endRecording_none State.endRecording_recording]

theorem moves_restartAnswer (straps : Station) : Moves s (restartAnswer straps s).after := by
  unfold restartAnswer
  split
  · exact .refl
  · split
    · exact .refl
    · refine moves_endRecording.trans ?_
      change Moves s.endRecording (s.restarted straps)
      rw [← State.restarted_endRecording]
      exact .single (.restarts straps State.endRecording_recording)

/-! The status, the counters and the trigger record (R110, R114, R118, R142, R175). -/

theorem moves_statusAnswer (named : Option Byte) : Moves s (statusAnswer named s).after := by
  unfold statusAnswer
  split
  · exact .refl
  · split
    · exact .refl
    · split
      · exact .refl
      · exact .refl

theorem moves_countersAnswer (clear : Byte) : Moves s (countersAnswer clear s).after := by
  unfold countersAnswer
  split
  · exact .refl
  · exact moves_setLink _
  · exact .refl

/-- TRIGGER_ARM arms no trigger at once (R114). -/
theorem triggerOf_arming {a : ArmArgs} {k : Trigger} (h : triggerOf a = some k) : k.state = .arming := by
  unfold triggerOf at h
  split at h
  · split at h <;> cases h
    rfl
  · cases h

theorem moves_armAnswer (a : ArmArgs) : Moves s (armAnswer a s).after := by
  unfold armAnswer
  split
  · exact .refl
  · rename_i k hk
    split
    · exact .refl
    · rename_i hst
      exact .single (.triggers k (fun harm => nomatch (triggerOf_arming hk).symm.trans harm) fun hc => absurd hc hst)

/-! The preset store's requests (R7 to R10, R16 to R21). -/

theorem moves_openAnswer (n : Station) (a : OpenArgs) : Moves s (openAnswer n a s).after := by
  unfold openAnswer
  split
  · rename_i p f _ _
    split
    · exact .refl
    rename_i hcount
    split
    · exact .refl
    rename_i hfrozen
    split
    · exact .refl
    rename_i hfree
    split
    · exact .refl
    rename_i href
    split
    · exact .refl
    rename_i hroom
    simp only [not_or, Bool.not_eq_true, Option.isSome_eq_false_iff, Option.isNone_iff_eq_none] at hfree
    obtain ⟨hd, hr, hc⟩ := hfree
    exact .single (.store (.opens n p _ f (not_not.mp hfrozen) hd hr hc (Bool.eq_false_of_not_eq_true href)
      (not_not.mp hcount).1 (Nat.not_lt.mp hroom)))
  · exact .refl

theorem moves_writeOwned {d : Download} (hd : s.store.download = some d) (start : Nat) (ks : List Keyframe) :
    Moves s (writeOwned d start ks s).after := by
  have hkept : Move s (s.setStore { s.store with download := some d.restarted }) := .store (.ages hd rfl rfl)
  unfold writeOwned
  dsimp only
  split
  · exact .single hkept
  · rename_i hstart
    split
    · exact .single hkept
    · rename_i hroom
      obtain rfl : start = d.nextIndex := not_not.mp hstart
      exact .single (.store (.writes hd rfl rfl (Nat.not_lt.mp hroom)))

theorem moves_writeAnswer (n : Station) (a : WriteArgs) : Moves s (writeAnswer n a s).after := by
  unfold writeAnswer
  split
  · split
    · exact .refl
    split
    · exact .refl
    rename_i d hd
    split
    · exact .refl
    split
    · exact .refl
    · exact moves_writeOwned hd _ _
  · exact .refl

theorem moves_closeOwned {d : Download} (hd : s.store.download = some d) : Moves s (closeOwned d s).after := by
  unfold closeOwned
  dsimp only
  split
  · rename_i hchecks
    exact .single (.store (.closes hd hchecks))
  · exact .single (.store (.discards hd))

theorem moves_closeAnswer (n : Station) (b : Byte) : Moves s (closeAnswer n b s).after := by
  unfold closeAnswer
  split
  · exact .refl
  split
  · exact .refl
  rename_i d hd
  split
  · exact .refl
  split
  · exact .refl
  · exact moves_closeOwned hd

theorem moves_eraseAnswer (b : Byte) : Moves s (eraseAnswer b s).after := by
  unfold eraseAnswer
  split
  · exact .refl
  split
  · exact .refl
  split
  · exact .refl
  rename_i href
  split
  · exact .refl
  · exact .refl
  · exact .refl
  · rename_i hready
    exact .single (.store (.erases hready (Bool.eq_false_of_not_eq_true href)))

theorem moves_editAnswer (a : EditArgs) : Moves s (editAnswer a s).after := by
  unfold editAnswer
  split
  · rename_i p f _ _
    split
    · exact .refl
    split
    · exact .refl
    rename_i hready
    split
    · exact .refl
    · exact .single (.store (.edits f (not_not.mp hready)))
  · exact .refl

theorem moves_directoryAnswer (b : Byte) : Moves s (directoryAnswer b s).after := by
  unfold directoryAnswer
  split
  · exact .refl
  · split
    · exact .refl
    · exact .refl

theorem moves_readAnswer (a : ReadArgs) : Moves s (readAnswer a s).after := by
  unfold readAnswer
  split
  · exact .refl
  split
  · exact .refl
  split
  · exact .refl
  split
  · exact .refl
  split
  · exact .refl
  · exact .refl

theorem moves_compactAnswer : Moves s (compactAnswer s).after := by
  unfold compactAnswer
  split
  · exact .refl
  · rename_i hfree
    simp only [not_or, not_not, Bool.not_eq_true, Option.isSome_eq_false_iff, Option.isNone_iff_eq_none] at hfree
    obtain ⟨hn, hrun, hd, hr, -⟩ := hfree
    exact .single (.store (.compacts hn hrun hd hr))

/-! Every command but the reset events. -/

/-- The reset events (R185). -/
def ResetEvent : Instr → Prop
  | .powerOnReset _ => True
  | .rstnAssert => True
  | .rstnRelease _ => True
  | _ => False

/-- A command whose outcome is a state reached by moves completes by moves. -/
theorem completes_of_moves {t : State} (h : Moves s t) :
    ∃ t', (.next t : Host.Outcome State Fault Refusal) = .next t' ∧ Moves s t' := ⟨t, rfl, h⟩

theorem execMarkSample_moves (levels : BitVec 4) : ∃ t, execMarkSample levels s = .next t ∧ Moves s t := by
  refine completes_of_moves ?_
  have hsampled : Moves s (s.sampled levels).restand := (moves_setMark _).trans moves_restand
  split
  · split
    · exact hsampled.trans moves_markFiring
    · exact hsampled
  · exact .refl

theorem execDrdyRise_moves : ∃ t, execDrdyRise s = .next t ∧ Moves s t := by
  refine completes_of_moves ?_
  split
  · exact (moves_setDrdy true).trans moves_tryExchange
  · exact moves_setDrdy true

theorem execExchangeComplete_moves (fb : RawFeedback) : ∃ t, execExchangeComplete fb s = .next t ∧ Moves s t := by
  refine completes_of_moves ?_
  split
  · split
    · exact (moves_judge _ fb).trans moves_tryExchange
    · exact .refl
  · exact .refl

theorem execConfigExchangeInterval_moves : ∃ t, execConfigExchangeInterval s = .next t ∧ Moves s t := by
  refine completes_of_moves ?_
  split
  · exact (moves_setPeers _).trans (moves_handOver _ _ _ _)
  · exact .refl

theorem execContentionWindow_moves (event : WindowEvent) : ∃ t, execContentionWindow event s = .next t ∧ Moves s t := by
  refine completes_of_moves ?_
  split
  · exact .refl
  · cases event with
    | opening => exact moves_setLink _
    | slot others => exact moves_ownSlot others
    | whole others =>
      have hopened : Moves s s.openWindow := moves_setLink _
      exact hopened.trans (moves_ownSlot others)

theorem execTransmissionComplete_moves : ∃ t, execTransmissionComplete s = .next t ∧ Moves s t := by
  refine completes_of_moves ?_
  split
  · exact .refl
  · exact (moves_completeFrame _).trans (moves_setLink _)

theorem execBadArrival_moves : ∃ t, execBadArrival s = .next t ∧ Moves s t := by
  refine completes_of_moves ?_
  split
  · exact .refl
  · exact moves_countArrival true

theorem execErrorWindowEnd_moves (bad : Bool) : ∃ t, execErrorWindowEnd bad s = .next t ∧ Moves s t := by
  refine completes_of_moves ?_
  split
  · exact moves_countArrival bad
  · exact .refl

theorem execCompactionComplete_moves : ∃ t, execCompactionComplete s = .next t ∧ Moves s t := by
  refine completes_of_moves ?_
  split
  · rename_i h
    exact .single (.store (.completes h.2))
  · exact .refl

/-- Every command but the reset events completes, by moves. -/
theorem exec_moves (c : Instr) (hc : ¬ ResetEvent c) : ∃ t, exec c s = .next t ∧ Moves s t := by
  cases c with
  | powerOnReset straps => exact absurd trivial hc
  | rstnAssert => exact absurd trivial hc
  | rstnRelease straps => exact absurd trivial hc
  | controlPeriodExpiry => exact completes_of_moves (moves_expiryIf _)
  | seekCompletion => exact completes_of_moves (moves_expiryIf _)
  | passEnd => exact completes_of_moves (moves_expiryIf _)
  | haltComplete => exact completes_of_moves (moves_expiryIf _)
  | downloadLapse => exact completes_of_moves (moves_expiryIf _)
  | ownerLapse => exact completes_of_moves (moves_expiryIf _)
  | contestExpiry => exact completes_of_moves (moves_expiryIf _)
  | configExchangeInterval => exact execConfigExchangeInterval_moves
  | markSample levels => exact execMarkSample_moves levels
  | drdyRise => exact execDrdyRise_moves
  | drdyFall => exact completes_of_moves (moves_setDrdy false)
  | exchangeComplete feedback => exact execExchangeComplete_moves feedback
  | contentionWindow event => exact execContentionWindow_moves event
  | transmissionComplete => exact execTransmissionComplete_moves
  | badArrival => exact execBadArrival_moves
  | errorWindowEnd bad => exact execErrorWindowEnd_moves bad
  | compactionComplete => exact execCompactionComplete_moves
  | halt n origin causes epoch => exact completes_of_moves (moves_arrive n fun _ => moves_actHalt origin causes)
  | resume n epoch => exact completes_of_moves (moves_arrive n fun _ => moves_actResume epoch)
  | stick n sequence channels => exact completes_of_moves (moves_arrive n fun _ => moves_actStick n sequence channels)
  | load n m id preset cond => exact completes_of_moves (moves_arriveInMask n m fun _ => moves_actLoad id preset cond)
  | seek n m id => exact completes_of_moves (moves_arriveInMask n m fun _ => moves_actSeek id)
  | go n m id => exact completes_of_moves (moves_arriveInMask n m fun _ => moves_actGo m id)
  | stop n m id => exact completes_of_moves (moves_arriveInMask n m fun _ => moves_actStop id)
  | hold n m id => exact completes_of_moves (moves_arriveInMask n m fun _ => moves_actHold id)
  | release n m id => exact completes_of_moves (moves_arriveInMask n m fun _ => moves_actRelease id)
  | loopEnd n m id => exact completes_of_moves (moves_arriveInMask n m fun _ => moves_actLoopEnd id)
  | recStart n m preset interval =>
    exact completes_of_moves (moves_arriveInMask n m fun _ => moves_actRecStart preset interval)
  | recStop n m => exact completes_of_moves (moves_arriveInMask n m fun _ => moves_actRecStop)
  | state n report haltFirst => exact completes_of_moves (moves_arrive n fun _ => moves_actState n report haltFirst)
  | serviceReply n => exact completes_of_moves (moves_arrive n fun _ => .refl)
  | unknownKind n => exact completes_of_moves (moves_arrive n fun _ => .refl)
  | ident header args => exact completes_of_moves (moves_requestArgs header _ args fun _ _ => .refl)
  | startRecordWriteSection1 header args =>
    exact completes_of_moves (moves_request header _ fun _ => moves_section1ArgsAnswer args)
  | startRecordWriteSection2 header args =>
    exact completes_of_moves (moves_requestArgs header _ args fun a _ => moves_section2Answer a)
  | restart header args straps =>
    exact completes_of_moves (moves_arriveUnless _ _ fun _ =>
      moves_takeRequest header _ (moves_withArgs args fun _ => moves_restartAnswer straps))
  | statusRead header args => exact completes_of_moves (moves_requestArgs header _ args fun a _ => moves_statusAnswer a)
  | statusReadPeer header n => exact completes_of_moves (moves_request header _ fun _ => moves_statusAnswer _)
  | countersRead header args =>
    exact completes_of_moves (moves_requestArgs header _ args fun a _ => moves_countersAnswer a)
  | presetOpen header args => exact completes_of_moves (moves_requestArgs header _ args fun a _ => moves_openAnswer _ a)
  | keyframeWrite header args =>
    exact completes_of_moves (moves_requestArgs header _ args fun a _ => moves_writeAnswer _ a)
  | presetClose header args => exact completes_of_moves (moves_requestArgs header _ args fun a _ => moves_closeAnswer _ a)
  | presetErase header args => exact completes_of_moves (moves_requestArgs header _ args fun a _ => moves_eraseAnswer a)
  | presetEdit header args => exact completes_of_moves (moves_requestArgs header _ args fun a _ => moves_editAnswer a)
  | directoryRead header args =>
    exact completes_of_moves (moves_requestArgs header _ args fun a _ => moves_directoryAnswer a)
  | keyframeRead header args => exact completes_of_moves (moves_requestArgs header _ args fun a _ => moves_readAnswer a)
  | poolCompact header args => exact completes_of_moves (moves_requestArgs header _ args fun _ _ => moves_compactAnswer)
  | triggerArm header args => exact completes_of_moves (moves_requestArgs header _ args fun a _ => moves_armAnswer a)
  | triggerDisarm header args =>
    exact completes_of_moves (moves_requestArgs header _ args fun _ _ => .single (.triggers _ nofun fun _ => rfl))
  | triggerRead header args => exact completes_of_moves (moves_requestArgs header _ args fun _ _ => .refl)
  | unknownRequestKind header kind => exact completes_of_moves (moves_request header kind fun _ => .refl)

/-- Settles O2: a reset event keeps the queue by its definition, and no move of any other command touches it. -/
theorem everyCommandCompletes : Obligations.EveryCommandCompletes := by
  intro c s
  by_cases hc : ResetEvent c
  · cases c
    case powerOnReset | rstnAssert | rstnRelease => exact ⟨_, rfl, rfl⟩
    all_goals exact absurd hc id
  · obtain ⟨t, hexec, hmoves⟩ := exec_moves (s := s) c hc
    exact ⟨t, hexec, hmoves.outside.1⟩

/-- Settles O1: the queue with c in front is not empty, and c is executed on the rest. -/
theorem stepRunsTheFrontCommand : Obligations.StepRunsTheFrontCommand := fun _ _ _ => rfl

end Sys2Proof.Machine

/-! SUPPORT. Every move keeps what each station state says about the other blocks. -/

namespace Sys2Proof.Machine

variable {s t : State} {st : Store}

/-! What the store's operations leave of its flags. -/

/-- The store t has the contexts, the compaction and the pending check of st, whatever directory and pool it has. -/
structure Store.SameFlags (st t : Store) : Prop where
  download : t.download = st.download
  recording : t.recording = st.recording
  compacting : t.compacting = st.compacting
  rangeCheckDue : t.rangeCheckDue = st.rangeCheckDue

theorem Store.SameFlags.rfl : st.SameFlags st := ⟨.refl _, .refl _, .refl _, .refl _⟩

theorem Store.SameFlags.trans {u v : Store} (h : st.SameFlags u) (h' : u.SameFlags v) : st.SameFlags v :=
  ⟨h'.download.trans h.download, h'.recording.trans h.recording, h'.compacting.trans h.compacting,
    h'.rangeCheckDue.trans h.rangeCheckDue⟩

theorem Store.free_sameFlags (p : Preset) : st.SameFlags (st.free p) := ⟨.refl _, .refl _, .refl _, .refl _⟩

theorem Store.checkEntry_sameFlags (lo hi : Int) (p : Preset) : st.SameFlags (st.checkEntry lo hi p) := by
  unfold Store.checkEntry
  split
  · exact Store.free_sameFlags p
  · exact .rfl

theorem Store.checkRanges_sameFlags (lo hi : Int) : st.SameFlags (st.checkRanges lo hi) := by
  unfold Store.checkRanges
  induction presets generalizing st with
  | nil => exact .rfl
  | cons p l ih => exact (Store.checkEntry_sameFlags lo hi p).trans ih

@[simp] theorem Store.freeIfReady_rangeCheckDue (p : Preset) : (st.freeIfReady p).rangeCheckDue = st.rangeCheckDue := by
  unfold Store.freeIfReady
  split <;> rfl

theorem Store.checkFrozen_frame (w : StartRecord) :
    (st.checkFrozen w).download = st.download ∧ (st.checkFrozen w).recording = st.recording ∧
    (st.checkFrozen w).compacting = st.compacting := by
  unfold Store.checkFrozen
  split
  · exact ⟨rfl, rfl, rfl⟩
  · have h := Store.checkRanges_sameFlags (st := st) w.lo w.hi
    exact ⟨h.download, h.recording, h.compacting⟩

/-- The check at a freezing is put off only while a compaction is in flight (R23). -/
theorem Store.checkFrozen_rangeCheckDue (w : StartRecord) (h : st.rangeCheckDue = true → st.compacting = true) :
    (st.checkFrozen w).rangeCheckDue = true → st.compacting = true := by
  unfold Store.checkFrozen
  split
  · rename_i hc
    exact fun _ => hc
  · rwa [(Store.checkRanges_sameFlags w.lo w.hi).rangeCheckDue]

/-- A discarded download leaves compaction and pending check as they are. -/
theorem Store.discardDownload_rest (st : Store) :
    st.discardDownload.compacting = st.compacting ∧ st.discardDownload.rangeCheckDue = st.rangeCheckDue := by
  unfold Store.discardDownload
  split <;> exact ⟨rfl, rfl⟩

theorem Store.compacted_rangeCheckDue : st.compacted.rangeCheckDue = st.rangeCheckDue := by rw [Store.compacted]

theorem State.completeCompaction_frame :
    s.completeCompaction.store.download = s.store.download ∧
    s.completeCompaction.store.recording = s.store.recording ∧ s.completeCompaction.store.compacting = false ∧
    s.completeCompaction.store.rangeCheckDue = false := by
  by_cases hdue : s.store.rangeCheckDue = true
  · rw [State.completeCompaction_due hdue, State.setStore_store]
    dsimp only
    have h := Store.checkRanges_sameFlags (st := s.store.compacted) s.record.lo s.record.hi
    exact ⟨h.download.trans Store.compacted_download, h.recording.trans Store.compacted_recording,
      h.compacting.trans Store.compacted_compacting, rfl⟩
  · have hnot := Bool.eq_false_of_not_eq_true hdue
    rw [State.completeCompaction_plain hnot, State.setStore_store]
    exact ⟨Store.compacted_download, Store.compacted_recording, Store.compacted_compacting,
      Store.compacted_rangeCheckDue.trans hnot⟩

/-! The slots. -/

theorem NextSlot.backToLoaded_state (n : NextSlot) :
    n.backToLoaded.state = if n.state = .empty then .empty else .loaded := by
  cases hn : n.state with
  | empty | loaded => rw [NextSlot.backToLoaded_rest (by simp [hn])]; simp [hn]
  | seeking | ready => rw [NextSlot.backToLoaded_seek (by simp [hn])]; simp

theorem NextSlot.backToLoaded_empty (n : NextSlot) : n.backToLoaded.state = .empty ↔ n.state = .empty := by
  rw [NextSlot.backToLoaded_state]
  split <;> simp_all

theorem NextSlot.backToLoaded_noSeek (n : NextSlot) : ¬ (n.backToLoaded.state = .seeking ∨ n.backToLoaded.state = .ready) := by
  rw [NextSlot.backToLoaded_state]
  split <;> simp

theorem NextSlot.backToLoaded_emptyValues {n : NextSlot} (h : n.state = .empty → n = NextSlot.empty) :
    n.backToLoaded.state = .empty → n.backToLoaded = NextSlot.empty := fun hb => by
  have hn := (NextSlot.backToLoaded_empty n).mp hb
  rw [NextSlot.backToLoaded_rest (.inl hn), h hn]

@[simp] theorem NextSlot.backToLoaded_preset (n : NextSlot) : n.backToLoaded.preset = n.preset := by
  unfold NextSlot.backToLoaded
  split <;> rfl

/-! The causes of a station in CONFIG (R128). -/

/-- A cause latched in CONFIG is NUMBER_CLASH or none. -/
theorem configCauses_latch (c d : Causes) :
    (c ||| d &&& causeNumberClash) &&& ~~~causeNumberClash = c &&& ~~~causeNumberClash := by
  ext i
  simp only [BitVec.getElem_and, BitVec.getElem_or, BitVec.getElem_not]
  grind

/-- Where only NUMBER_CLASH can be latched and it is not, no cause is. -/
theorem causes_clear {c : Causes} (honly : c &&& ~~~causeNumberClash = 0) (hnot : causesHave c causeNumberClash = false) :
    c = 0 := by
  revert c
  decide

/-! The moves. -/

/-- A change of the store that opens nothing and leaves compaction and pending check as they are. -/
theorem State.ModeSound.setStore (h : s.ModeSound) (hrst : s.pins.rstn = true)
    (hrec : st.recording.isSome = true → s.store.recording.isSome = true)
    (hdown : st.download.isSome = true → s.store.download.isSome = true) (hcomp : st.compacting = s.store.compacting)
    (hdue : st.rangeCheckDue = s.store.rangeCheckDue) : (s.setStore st).ModeSound :=
  { h with
    recordingInRun := fun hr => h.recordingInRun (hrec hr)
    downloadFrozen := fun hd => h.downloadFrozen (hdown hd)
    oneInProgress := by
      obtain ⟨hone, hother⟩ := h.oneInProgress
      refine ⟨fun hd => ?_, fun hr => hcomp.trans (hother (hrec hr))⟩
      obtain ⟨hnone, hidle⟩ := hone (hdown hd)
      refine ⟨?_, hcomp.trans hidle⟩
      by_contra hne
      exact nomatch hnone ▸ hrec (Option.isSome_iff_ne_none.mpr hne)
    compactingIdle := fun hc => h.compactingIdle (hcomp ▸ hc)
    checkPutOff := fun hd => hcomp.trans (h.checkPutOff (hdue ▸ hd))
    heldInReset := fun hlow => nomatch hrst.symm.trans hlow }

theorem StoreMove.modeSound (h : s.ModeSound) (hrst : s.pins.rstn = true) (m : StoreMove s st) :
    (s.setStore st).ModeSound := by
  have hreset {P : Prop} (hlow : s.pins.rstn = false) : P := nomatch hrst.symm.trans hlow
  cases m with
  | opens n p k f hfrozen hd hr hc =>
    have hrec : (s.store.openDownload n p k f).recording = none := (Store.freeIfReady_recording p).trans hr
    have hcomp : (s.store.openDownload n p k f).compacting = false := (Store.freeIfReady_compacting p).trans hc
    exact
    { h with
      recordingInRun := fun hsome => absurd (hrec ▸ hsome) nofun
      downloadFrozen := fun _ => hfrozen
      oneInProgress := ⟨fun _ => ⟨hrec, hcomp⟩, fun hsome => absurd (hrec ▸ hsome) nofun⟩
      compactingIdle := fun hcom => nomatch hcomp.symm.trans hcom
      checkPutOff := fun hdue => (Store.freeIfReady_compacting p).trans
        (h.checkPutOff ((Store.freeIfReady_rangeCheckDue p).symm.trans hdue))
      heldInReset := hreset }
  | records p interval hrun hd hr hc =>
    have hdown : (s.startRecording p interval).store.download = none := (Store.freeIfReady_download p).trans hd
    have hcomp : (s.startRecording p interval).store.compacting = false := (Store.freeIfReady_compacting p).trans hc
    exact
    { h with
      recordingInRun := fun _ => hrun
      downloadFrozen := fun hsome => absurd (hdown ▸ hsome) nofun
      oneInProgress := ⟨fun hsome => absurd (hdown ▸ hsome) nofun, fun _ => hcomp⟩
      compactingIdle := fun hcom => nomatch hcomp.symm.trans hcom
      checkPutOff := fun hdue => (Store.freeIfReady_compacting p).trans
        (h.checkPutOff ((Store.freeIfReady_rangeCheckDue p).symm.trans hdue))
      heldInReset := hreset }
  | compacts hn hrun hd hr =>
    exact
    { h with
      oneInProgress := ⟨fun hsome => absurd (hd ▸ hsome) nofun, fun hsome => absurd (hr ▸ hsome) nofun⟩
      compactingIdle := fun _ => ⟨hn, hrun⟩
      checkPutOff := fun _ => rfl
      heldInReset := hreset }
  | completes hc =>
    obtain ⟨hdown, hrec, hcomp, hdue⟩ := State.completeCompaction_frame (s := s)
    exact
    { h with
      recordingInRun := fun hsome => h.recordingInRun (hrec ▸ hsome)
      downloadFrozen := fun hsome => h.downloadFrozen (hdown ▸ hsome)
      oneInProgress := ⟨fun hsome => ⟨hrec.trans (h.oneInProgress.1 (hdown ▸ hsome)).1, hcomp⟩, fun _ => hcomp⟩
      compactingIdle := fun hcom => nomatch hcomp.symm.trans hcom
      checkPutOff := fun hsome => nomatch hdue.symm.trans hsome
      heldInReset := hreset }
  | ages hd | writes hd => exact h.setStore hrst id (fun _ => hd ▸ rfl) rfl rfl
  | closes | discards => exact h.setStore hrst id nofun rfl rfl
  | ticks hr | captures hr => exact h.setStore hrst (fun _ => hr ▸ rfl) id rfl rfl
  | finishes | abandons => exact h.setStore hrst nofun id rfl rfl
  | erases | edits => exact h.setStore hrst id id rfl rfl

theorem State.SameBlocks.modeSound (hsame : s.SameBlocks t) (h : s.ModeSound) (hrst : s.pins.rstn = true) :
    t.ModeSound := by
  obtain ⟨-, hpin, hstore, hnext, hrunning, hblend, htrigger, hhalt, hstart⟩ := hsame
  cases s
  cases t
  subst hstore hnext hrunning hblend htrigger hhalt hstart
  exact { h with heldInReset := fun hlow => nomatch (hpin.trans hrst).symm.trans hlow }

/-- Every move made while RSTN is high keeps ModeSound. -/
theorem Move.modeSound (h : s.ModeSound) (hrst : s.pins.rstn = true) (m : Move s t) : t.ModeSound := by
  have hreset {P : Prop} (hlow : s.pins.rstn = false) : P := nomatch hrst.symm.trans hlow
  cases m with
  | aside hsame => exact hsame.modeSound h hrst
  | store hstore => exact hstore.modeSound h hrst
  | loads p id c hst hc hp =>
    exact
    { h with
      emptyValues := nofun
      configEmpty := fun hcfg => absurd hcfg hst
      seekInRun := nofun
      compactingIdle := fun hcom => nomatch hc.symm.trans hcom
      heldInReset := hreset }
  | seeks c hc hrun hidle hn =>
    have hne : c ≠ .empty := by rcases hc with rfl | rfl <;> decide
    exact
    { h with
      emptyValues := fun he => absurd he hne
      configEmpty := fun hcfg => nomatch hrun.symm.trans hcfg
      seekInRun := fun _ => ⟨hrun, hidle⟩
      compactingIdle := fun hcom => absurd (h.compactingIdle hcom).1 hn
      heldInReset := hreset }
  | unseeks =>
    exact
    { h with
      emptyValues := NextSlot.backToLoaded_emptyValues h.emptyValues
      configEmpty := fun hcfg => (NextSlot.backToLoaded_empty _).mpr (h.configEmpty hcfg)
      seekInRun := fun hseek => absurd hseek (NextSlot.backToLoaded_noSeek _)
      compactingIdle := fun hcom =>
        ⟨(NextSlot.backToLoaded_empty _).mpr (h.compactingIdle hcom).1, (h.compactingIdle hcom).2⟩
      heldInReset := hreset }
  | starts m hrun hn =>
    exact
    { h with
      cueInRun := fun hst => absurd hrun hst
      idleValues := nofun
      emptyValues := fun _ => rfl
      configEmpty := fun _ => rfl
      seekInRun := nofun
      takeInCue := nofun
      compactingIdle := fun hcom => absurd (h.compactingIdle hcom).1 hn
      heldInReset := hreset }
  | idles =>
    exact
    { h with
      cueInRun := fun _ => rfl
      idleValues := fun _ => rfl
      seekInRun := fun hseek => ⟨(h.seekInRun hseek).1, rfl⟩
      takeInCue := nofun
      compactingIdle := fun hcom => ⟨(h.compactingIdle hcom).1, rfl⟩
      heldInReset := hreset }
  | runs r hs hr =>
    exact
    { h with
      cueInRun := fun hst => absurd (h.cueInRun hst) hs
      idleValues := fun hidle => absurd hidle hr
      seekInRun := fun hseek => absurd (h.seekInRun hseek).2 hs
      takeInCue := fun _ => hr
      compactingIdle := fun hcom => absurd (h.compactingIdle hcom).2 hs
      heldInReset := hreset }
  | blends b htaking hv =>
    exact
    { h with
      takeInCue := fun htake => htaking.elim (fun heq => h.takeInCue (heq ▸ htake)) id
      atRest := fun hst => hv.elim id fun hmoves => by
        rcases hst with hst | hst <;> exact hmoves.elim (fun hgo => nomatch hst.symm.trans hgo) fun hgo =>
          nomatch hst.symm.trans hgo
      heldInReset := hreset }
  | triggers k hrun hc => exact { h with armedInRun := hrun, configDisarmed := hc, heldInReset := hreset }
  | latches c e hc =>
    exact
    { h with
      runClear := fun hrun => by
        rcases hc with rfl | hst | hst | ⟨hst, -⟩
        · exact h.runClear hrun
        all_goals exact nomatch hrun.symm.trans hst
      configCauses := fun hcfg => by
        rcases hc with rfl | hst | hst | ⟨-, d, rfl⟩
        · exact h.configCauses hcfg
        · exact nomatch hcfg.symm.trans hst
        · exact nomatch hcfg.symm.trans hst
        · exact (configCauses_latch _ _).trans (h.configCauses hcfg)
      heldInReset := hreset }
  | halts v hr hrun hv hrec =>
    exact
    { h with
      runClear := fun hst => nomatch hv.symm.trans hst
      configCauses := fun hst => nomatch hv.symm.trans hst
      frozenOutside := fun _ => h.frozenOutside (hrun ▸ nofun)
      cueInRun := fun _ => rfl
      idleValues := fun _ => rfl
      emptyValues := NextSlot.backToLoaded_emptyValues h.emptyValues
      configEmpty := fun hst => nomatch hv.symm.trans hst
      seekInRun := fun hseek => absurd hseek (NextSlot.backToLoaded_noSeek _)
      takeInCue := nofun
      atRest := fun hst => by rcases hst with hst | hst <;> exact nomatch hv.symm.trans hst
      armedInRun := nofun
      configDisarmed := fun _ => rfl
      haltRecord := fun _ => hrec
      recordingInRun := fun hsome => absurd (hr ▸ hsome) nofun
      compactingIdle := fun hcom => ⟨(NextSlot.backToLoaded_empty _).mpr (h.compactingIdle hcom).1, rfl⟩
      heldInReset := hreset }
  | rests v hv hrest hfrom =>
    have hnotRun : s.halt.station ≠ .run := by rcases hfrom with ⟨hst, -⟩ | ⟨hst, -⟩ <;> simp [hst]
    exact
    { h with
      runClear := fun hst => nomatch hv.symm.trans hst
      configCauses := fun hst => nomatch hv.symm.trans hst
      frozenOutside := fun _ => hfrom.elim (fun hhalting => h.frozenOutside (hhalting.1 ▸ nofun)) fun hcfg => hcfg.2.1
      cueInRun := fun _ => h.cueInRun hnotRun
      configEmpty := fun hst => nomatch hv.symm.trans hst
      seekInRun := fun hseek => absurd (h.seekInRun hseek).1 hnotRun
      atRest := fun _ => hrest
      armedInRun := fun harmed => absurd (h.armedInRun harmed) hnotRun
      configDisarmed := fun hst => nomatch hv.symm.trans hst
      haltRecord := fun _ => hfrom.elim (fun hhalting => hhalting.2 ▸ h.haltRecord (.inl hhalting.1)) fun hcfg => hcfg.2.2
      recordingInRun := fun hsome => absurd (h.recordingInRun hsome) hnotRun
      heldInReset := hreset }
  | enters hfrom =>
    have hnotRun : s.halt.station ≠ .run := by rcases hfrom with ⟨hst, -⟩ | ⟨hst, -⟩ <;> simp [hst]
    exact
    { h with
      runClear := fun _ => hfrom.elim (fun hhalted => hhalted.2) fun hcfg => causes_clear (h.configCauses hcfg.1) hcfg.2.2
      configCauses := nofun
      frozenOutside := fun _ => hfrom.elim (fun hhalted => h.frozenOutside (hhalted.1 ▸ nofun)) fun hcfg => hcfg.2.1
      cueInRun := fun _ => h.cueInRun hnotRun
      configEmpty := nofun
      seekInRun := fun hseek => absurd (h.seekInRun hseek).1 hnotRun
      atRest := nofun
      armedInRun := fun _ => rfl
      configDisarmed := nofun
      haltRecord := nofun
      recordingInRun := fun _ => rfl
      heldInReset := hreset }
  | stages q hrec =>
    exact { h with notStaged := fun hsome => absurd (hrec ▸ hsome) nofun, heldInReset := hreset }
  | freezes w hst hw =>
    obtain ⟨hdown, hrec, hcomp⟩ := Store.checkFrozen_frame (st := s.store) w
    exact
    { h with
      frozenOutside := fun _ => rfl
      notStaged := fun _ => rfl
      recordingInRun := fun hsome => h.recordingInRun (hrec ▸ hsome)
      downloadFrozen := fun _ => rfl
      oneInProgress := ⟨fun hsome => ⟨hrec.trans (h.oneInProgress.1 (hdown ▸ hsome)).1,
          hcomp.trans (h.oneInProgress.1 (hdown ▸ hsome)).2⟩,
        fun hsome => hcomp.trans (h.oneInProgress.2 (hrec ▸ hsome))⟩
      compactingIdle := fun hcom => h.compactingIdle (hcomp.symm.trans hcom)
      checkPutOff := fun hdue => hcomp.trans (Store.checkFrozen_rangeCheckDue w h.checkPutOff hdue)
      heldInReset := hreset }
  | restarts straps hr =>
    have hdown := State.restarted_download (s := s) straps
    have hrec := State.restarted_recording (s := s) straps
    have hstore : (s.restarted straps).store = s.store.discardDownload := by
      rw [State.restarted_store, State.endRecording_none hr]
    obtain ⟨hcomp, hdue⟩ := Store.discardDownload_rest s.store
    rw [← hstore] at hcomp hdue
    exact
    { runClear := nofun
      configCauses := fun _ => BitVec.zero_and
      frozenOutside := fun hst => absurd rfl hst
      notStaged := fun _ => rfl
      cueInRun := fun _ => rfl
      idleValues := fun _ => rfl
      emptyValues := fun _ => rfl
      configEmpty := fun _ => rfl
      seekInRun := nofun
      takeInCue := nofun
      atRest := fun _ => rfl
      armedInRun := nofun
      configDisarmed := fun _ => rfl
      haltRecord := nofun
      recordingInRun := fun hsome => absurd (hrec ▸ hsome) nofun
      downloadFrozen := fun hsome => absurd (hdown ▸ hsome) nofun
      oneInProgress := ⟨fun hsome => absurd (hdown ▸ hsome) nofun, fun hsome => absurd (hrec ▸ hsome) nofun⟩
      compactingIdle := fun _ => ⟨rfl, rfl⟩
      checkPutOff := fun hput => hcomp.trans (h.checkPutOff (hdue.symm.trans hput))
      heldInReset := fun hlow => hreset ((State.restarted_pins straps) ▸ hlow) }

end Sys2Proof.Machine

/-! SUPPORT. A property of states that the resets establish and that every move keeps is kept by every step; with it, what a
reset establishes. -/

namespace Sys2Proof.Machine

variable {s t : State} {P : State → Prop}

/-- The state after RSTN_ASSERT (R185). -/
def State.rstnAsserted (s : State) : State :=
  (((s.setPins { s.pins with rstn := false }).setLink
      { s.link with haltSlot := none, cueList := [], stateSlot := none, replySlot := none, inFlight := none,
                    offer := none }).setPort { s.port with pendingRecord := none, inFlight := none }).setStore
    (if s.store.compacting then Store.reset else s.store)

theorem exec_rstnAssert : exec .rstnAssert s = .next s.rstnAsserted := rfl

/-- What a property of states has to satisfy for every step to keep it. Moves are asked about only while RSTN is high: at a low
RSTN nothing moves but the pins (ModeSound.heldInReset). -/
structure StepInvariant (P : State → Prop) : Prop where
  modeSound : ∀ {s}, P s → s.ModeSound
  afterReset : ∀ straps pins, P (State.afterReset straps pins)
  setPending : ∀ {s} q, P s → P (s.setPending q)
  setDrdy : ∀ {s} b, P s → P (s.setPins { s.pins with drdy := b })
  rstnAsserted : ∀ {s}, P s → P s.rstnAsserted
  move : ∀ {s t}, s.pins.rstn = true → P s → Move s t → P t

theorem StepInvariant.moves (hP : StepInvariant P) (hrst : s.pins.rstn = true) (h : P s) (hmoves : Moves s t) : P t := by
  induction hmoves with
  | refl => exact h
  | tail hbefore hmove ih => exact hP.move ((Moves.outside hbefore).2.trans hrst) ih hmove

/-- While RSTN is low a command that is no reset event changes at most the level of DRDY. -/
theorem exec_held (c : Instr) (hc : ¬ ResetEvent c) (hlow : s.pins.rstn = false) (hflight : s.link.inFlight = none) :
    exec c s = .next s ∨ ∃ b, exec c s = .next (s.setPins { s.pins with drdy := b }) := by
  obtain ⟨-, hdeaf, -⟩ := goodArrivalIsCounted
  by_cases hsender : c.sender.isSome = true
  · exact .inl (hdeaf c s hlow (.inl hsender))
  cases c
  case powerOnReset | rstnAssert | rstnRelease => exact absurd trivial hc
  case drdyRise => exact .inr ⟨true, exec_drdyRise_pin (.inl hlow)⟩
  case drdyFall => exact .inr ⟨false, rfl⟩
  case transmissionComplete =>
    refine .inl ?_
    show execTransmissionComplete s = _
    rw [execTransmissionComplete, hflight]
  case badArrival => exact .inl (hdeaf _ s hlow (.inr (.inl rfl)))
  case errorWindowEnd bad => exact .inl (hdeaf _ s hlow (.inr (.inr (.inl ⟨bad, rfl⟩))))
  case contentionWindow event => exact .inl (hdeaf _ s hlow (.inr (.inr (.inr (.inl ⟨event, rfl⟩)))))
  case markSample levels => exact .inl (exec_event_reset hlow (.inl ⟨levels, rfl⟩))
  case exchangeComplete feedback => exact .inl (exec_event_reset hlow (.inr (.inl ⟨feedback, rfl⟩)))
  case controlPeriodExpiry | seekCompletion | passEnd | haltComplete | downloadLapse | ownerLapse | contestExpiry |
      configExchangeInterval | compactionComplete => exact .inl (exec_event_reset hlow (.inr (.inr (by simp))))
  all_goals exact absurd rfl hsender

/-- Each command keeps the property: the reset events by the resets, every other by its moves, or by standing still. -/
theorem StepInvariant.exec (hP : StepInvariant P) (h : P s) (c : Instr) (hexec : exec c s = .next t) : P t := by
  by_cases hc : ResetEvent c
  · cases c
    case powerOnReset straps =>
      cases hexec
      exact hP.setPending _ (hP.afterReset straps s.pins)
    case rstnRelease straps =>
      cases hexec
      exact hP.setPending _ (hP.afterReset straps _)
    case rstnAssert =>
      cases hexec
      exact hP.rstnAsserted h
    all_goals exact absurd hc id
  by_cases hrst : s.pins.rstn = true
  · obtain ⟨u, hnext, hmoves⟩ := exec_moves (s := s) c hc
    cases hnext.symm.trans hexec
    exact hP.moves hrst h hmoves
  · have hlow := Bool.eq_false_of_not_eq_true hrst
    obtain ⟨-, -, -, -, hflight, -⟩ := (hP.modeSound h).heldInReset hlow
    rcases exec_held (s := s) c hc hlow hflight with hnext | ⟨b, hnext⟩ <;> cases hnext.symm.trans hexec
    · exact h
    · exact hP.setDrdy b h

theorem StepInvariant.step (hP : StepInvariant P) (h : P s) (hstep : step s = .next t) : P t := by
  unfold Machine.step at hstep
  split at hstep
  · cases hstep
    exact h
  · exact hP.exec (hP.setPending _ h) _ hstep

/-! After a reset. -/

theorem State.afterReset_modeSound (straps : Station) (pins : Pins) : (State.afterReset straps pins).ModeSound :=
  { runClear := nofun
    configCauses := fun _ => BitVec.zero_and
    frozenOutside := fun hst => absurd rfl hst
    notStaged := nofun
    cueInRun := fun _ => rfl
    idleValues := fun _ => rfl
    emptyValues := fun _ => rfl
    configEmpty := fun _ => rfl
    seekInRun := nofun
    takeInCue := nofun
    atRest := fun _ => rfl
    armedInRun := nofun
    configDisarmed := fun _ => rfl
    haltRecord := nofun
    recordingInRun := nofun
    downloadFrozen := nofun
    oneInProgress := ⟨nofun, nofun⟩
    compactingIdle := nofun
    checkPutOff := nofun
    heldInReset := fun _ => ⟨rfl, rfl, rfl, rfl, rfl, rfl, rfl, rfl⟩ }

/-- No entry of the store after reset is in a state but EMPTY (R24). -/
theorem Store.reset_state (p : Preset) : (Store.reset.entry p).state = .empty := by rw [Store.reset_entry]; rfl

theorem Store.reset_sound : Store.reset.Sound :=
  have hempty {p : Preset} {c : EntryState} (hp : (Store.reset.entry p).state = c) (hc : c ≠ .empty) : False :=
    hc (hp.symm.trans (Store.reset_state p))
  { canonical := rfl
    hwm := Nat.zero_le _
    below := fun p hp => absurd (Store.reset_state p) hp
    apart := fun p _ _ hp => absurd (Store.reset_state p) hp
    emptyValues := fun p _ => Store.reset_entry p
    ready := fun _ hp => (hempty hp nofun).elim
    loading := fun _ hp => (hempty hp nofun).elim
    recording := fun _ hp => (hempty hp nofun).elim
    download := nofun
    recorder := nofun }

theorem Store.reset_notReady {p : Preset} (hp : (Store.reset.entry p).state = .ready) : False :=
  nomatch (Store.reset_state p).symm.trans hp

theorem State.afterReset_storeSound (straps : Station) (pins : Pins) : (State.afterReset straps pins).StoreSound :=
  ⟨Store.reset_sound, nofun⟩

theorem State.afterReset_contentSound (straps : Station) (pins : Pins) : (State.afterReset straps pins).ContentSound :=
  { softRange := nofun
    stagedRange := nofun
    playable := fun _ hp => (Store.reset_notReady hp).elim
    inside := nofun
    captured := nofun }

/-- Settles O3, by the four invariants one after another. -/
theorem resetMeetsTheInvariants : Obligations.ResetMeetsTheInvariants := fun straps pins =>
  ⟨State.afterReset_modeSound straps pins, State.afterReset_bounded straps pins, State.afterReset_storeSound straps pins,
    State.afterReset_contentSound straps pins⟩

/-! ModeSound is kept by every step. -/

/-- RSTN_ASSERT empties the outbound list and the port and ends a compaction, which leaves an empty store (R155, R166, R185). -/
theorem State.ModeSound.rstnAsserted (h : s.ModeSound) : s.rstnAsserted.ModeSound := by
  unfold State.rstnAsserted
  split
  · exact
    { h with
      recordingInRun := nofun
      downloadFrozen := nofun
      oneInProgress := ⟨nofun, nofun⟩
      compactingIdle := nofun
      checkPutOff := nofun
      heldInReset := fun _ => ⟨rfl, rfl, rfl, rfl, rfl, rfl, rfl, rfl⟩ }
  · rename_i hidle
    exact { h with heldInReset := fun _ => ⟨rfl, rfl, rfl, rfl, rfl, rfl, rfl, Bool.eq_false_of_not_eq_true hidle⟩ }

theorem modeSound_stepInvariant : StepInvariant State.ModeSound where
  modeSound := id
  afterReset := State.afterReset_modeSound
  setPending _ h := { h with }
  setDrdy _ h := { h with }
  rstnAsserted := State.ModeSound.rstnAsserted
  move hrst h m := m.modeSound h hrst

/-- Settles O4: every move keeps ModeSound. -/
theorem stepKeepsModeSound : Obligations.StepKeepsModeSound := fun _ _ h hstep => modeSound_stepInvariant.step h hstep

end Sys2Proof.Machine

/-! SUPPORT. Every move of the preset store keeps it sound: first where the ranges lie, then which entries are in progress. -/

namespace Sys2Proof.Machine

variable {s t : State} {st st' : Store}

/-! The two halves of soundness. -/

/-- Where the ranges lie (R2 to R5). -/
structure Store.Laid (st : Store) : Prop where
  canonical : st.pool.wf = true
  hwm : st.hwm ≤ 1024
  below : ∀ p : Preset, (st.entry p).state ≠ .empty → (st.entry p).first + (st.entry p).count ≤ st.hwm
  apart : ∀ p q : Preset, p ≠ q → (st.entry p).state ≠ .empty → (st.entry q).state ≠ .empty →
    (st.entry p).apart (st.entry q)
  emptyValues : ∀ p : Preset, (st.entry p).state = .empty → st.entry p = DirEntry.empty
  ready : ∀ p : Preset, (st.entry p).state = .ready → 2 ≤ (st.entry p).count

/-- An entry that is neither being loaded nor being recorded. -/
def DirEntry.settled (e : DirEntry) : Prop := e.state ≠ .loading ∧ e.state ≠ .recording

theorem DirEntry.empty_settled : DirEntry.empty.settled := ⟨nofun, nofun⟩

theorem DirEntry.settled_of_ready {e : DirEntry} (h : e.state = .ready) : e.settled := ⟨h ▸ nofun, h ▸ nofun⟩

theorem Store.Sound.laid (h : st.Sound) : st.Laid := { h with }

/-- With nothing in progress every entry is settled. -/
theorem Store.Laid.sound_settled (h : st.Laid) (hd : st.download = none) (hr : st.recording = none)
    (hsettled : ∀ q, (st.entry q).settled) : st.Sound :=
  { h with
    loading := fun q hq => absurd hq (hsettled q).1
    recording := fun q hq => absurd hq (hsettled q).2
    download := fun _ hd' => absurd (hd.symm.trans hd') nofun
    recorder := fun _ hr' => absurd (hr.symm.trans hr') nofun }

/-- With a download in progress every entry but its own is settled. -/
theorem Store.Laid.sound_download (h : st.Laid) {d : Download} (hd : st.download = some d) (hr : st.recording = none)
    (hload : (st.entry d.preset).state = .loading) (hcount : 2 ≤ (st.entry d.preset).count)
    (hend : (st.entry d.preset).first + (st.entry d.preset).count = st.hwm)
    (hindex : d.nextIndex ≤ (st.entry d.preset).count) (hsettled : ∀ q, q ≠ d.preset → (st.entry q).settled) :
    st.Sound :=
  { h with
    loading := fun q hq => by
      obtain rfl : q = d.preset := by_contra fun hne => (hsettled q hne).1 hq
      exact ⟨hcount, hend, d, hd, rfl⟩
    recording := fun q hq => by
      obtain rfl : q = d.preset := by_contra fun hne => (hsettled q hne).2 hq
      exact nomatch hload.symm.trans hq
    download := fun d' hd' => by
      cases hd.symm.trans hd'
      exact ⟨hload, hindex⟩
    recorder := fun _ hr' => absurd (hr.symm.trans hr') nofun }

/-- With a recording in progress every entry but its own is settled. -/
theorem Store.Laid.sound_recording (h : st.Laid) {r : Recording} (hd : st.download = none) (hr : st.recording = some r)
    (hrec : (st.entry r.preset).state = .recording) (hcount : 1 ≤ (st.entry r.preset).count)
    (hend : (st.entry r.preset).first + (st.entry r.preset).count = st.hwm)
    (hsettled : ∀ q, q ≠ r.preset → (st.entry q).settled) : st.Sound :=
  { h with
    loading := fun q hq => by
      obtain rfl : q = r.preset := by_contra fun hne => (hsettled q hne).1 hq
      exact nomatch hrec.symm.trans hq
    recording := fun q hq => by
      obtain rfl : q = r.preset := by_contra fun hne => (hsettled q hne).2 hq
      exact ⟨hcount, hend, r, hr, rfl⟩
    download := fun _ hd' => absurd (hd.symm.trans hd') nofun
    recorder := fun r' hr' => by
      cases hr.symm.trans hr'
      exact hrec }

theorem Store.Sound.settled (h : st.Sound) (hd : st.download = none) (hr : st.recording = none) (q : Preset) :
    (st.entry q).settled := by
  refine ⟨fun hq => ?_, fun hq => ?_⟩
  · obtain ⟨-, -, d, hd', -⟩ := h.loading q hq
    exact nomatch hd.symm.trans hd'
  · obtain ⟨-, -, r, hr', -⟩ := h.recording q hq
    exact nomatch hr.symm.trans hr'

theorem Store.Sound.recording_none (h : st.Sound) {d : Download} (hd : st.download = some d) : st.recording = none := by
  by_contra hr
  obtain ⟨r, hr⟩ := Option.ne_none_iff_exists'.mp hr
  exact nomatch (h.download_none hr).symm.trans hd

theorem Store.Sound.settled_download (h : st.Sound) {d : Download} (hd : st.download = some d) {q : Preset}
    (hq : q ≠ d.preset) : (st.entry q).settled := by
  refine ⟨fun hload => ?_, fun hrec => ?_⟩
  · obtain ⟨-, -, d', hd', rfl⟩ := h.loading q hload
    cases hd.symm.trans hd'
    exact hq rfl
  · obtain ⟨-, -, r, hr, -⟩ := h.recording q hrec
    exact nomatch (h.recording_none hd).symm.trans hr

theorem Store.Sound.settled_recording (h : st.Sound) {r : Recording} (hr : st.recording = some r) {q : Preset}
    (hq : q ≠ r.preset) : (st.entry q).settled := by
  refine ⟨fun hload => ?_, fun hrec => ?_⟩
  · obtain ⟨-, -, d, hd, -⟩ := h.loading q hload
    exact nomatch (h.download_none hr).symm.trans hd
  · obtain ⟨-, -, r', hr', rfl⟩ := h.recording q hrec
    cases hr.symm.trans hr'
    exact hq rfl

/-! Where the ranges lie after one entry is written, and after one is freed. -/

/-- One entry written over an owned range that meets no other; the other entries are as they were, and HWM has not fallen. -/
theorem Store.Laid.written (h : st.Laid) {p : Preset} {e : DirEntry}
    (hentry : ∀ q, st'.entry q = if q = p then e else st.entry q) (hpool : st'.pool.wf = true)
    (hrise : st.hwm ≤ st'.hwm) (htop : st'.hwm ≤ 1024) (howns : e.state ≠ .empty) (hready : e.state = .ready → 2 ≤ e.count)
    (hbelow : e.first + e.count ≤ st'.hwm)
    (hapart : ∀ q, q ≠ p → (st.entry q).state ≠ .empty → e.apart (st.entry q)) : st'.Laid := by
  have hsame : st'.entry p = e := by rw [hentry, if_pos rfl]
  have hother {q : Preset} (hq : q ≠ p) : st'.entry q = st.entry q := by rw [hentry, if_neg hq]
  refine ⟨hpool, htop, fun q hq => ?_, fun q r hne hq hr => ?_, fun q hq => ?_, fun q hq => ?_⟩
  · by_cases hqp : q = p
    · rw [hqp, hsame]
      exact hbelow
    · rw [hother hqp] at hq ⊢
      exact (h.below q hq).trans hrise
  · by_cases hqp : q = p
    · have hrp : r ≠ p := fun hrp => hne (hqp.trans hrp.symm)
      rw [hother hrp] at hr
      rw [hqp, hsame, hother hrp]
      exact hapart r hrp hr
    · rw [hother hqp] at hq ⊢
      by_cases hrp : r = p
      · rw [hrp, hsame]
        exact (hapart q hqp hq).symm
      · rw [hother hrp] at hr ⊢
        exact h.apart q r hne hq hr
  · by_cases hqp : q = p
    · rw [hqp, hsame] at hq
      exact absurd hq howns
    · rw [hother hqp] at hq ⊢
      exact h.emptyValues q hq
  · by_cases hqp : q = p
    · rw [hqp, hsame] at hq ⊢
      exact hready hq
    · rw [hother hqp] at hq ⊢
      exact h.ready q hq

theorem Store.Sound.laid_free (h : st.Sound) (p : Preset) : (st.free p).Laid := by
  obtain ⟨hfall, hbelow⟩ := h.free_hwm p
  have howned {q : Preset} (hq : ((st.free p).entry q).state ≠ .empty) : q ≠ p ∧ (st.free p).entry q = st.entry q := by
    have hqp : q ≠ p := fun hqp => hq (by rw [Store.free_entry, if_pos hqp]; rfl)
    exact ⟨hqp, by rw [Store.free_entry, if_neg hqp]⟩
  refine ⟨Pool.wf_freeRange _ _ h.canonical, hfall.trans h.hwm, fun q hq => ?_, fun q r hne hq hr => ?_, fun q hq => ?_,
    fun q hq => ?_⟩
  · obtain ⟨hqp, heq⟩ := howned hq
    rw [heq] at hq ⊢
    exact hbelow q hqp hq
  · have hqe := (howned hq).2
    have hre := (howned hr).2
    rw [hqe] at hq ⊢
    rw [hre] at hr ⊢
    exact h.apart q r hne hq hr
  · rw [Store.free_entry] at hq ⊢
    split at hq
    · exact if_pos ‹_›
    · rw [if_neg ‹_›]
      exact h.emptyValues q hq
  · have heq := (howned (q := q) (hq ▸ nofun)).2
    rw [heq] at hq ⊢
    exact h.ready q hq

/-! The moves one by one. -/

/-- Freeing the old content of a READY preset keeps the store sound (R7, R12). -/
theorem Store.Sound.freeIfReady (h : st.Sound) (p : Preset) : (st.freeIfReady p).Sound := by
  rw [Store.freeIfReady_eq]
  split
  · exact h.free_ready ‹_›
  · exact h

theorem Store.Sound.freeIfReady_hwm (h : st.Sound) (p : Preset) : (st.freeIfReady p).hwm ≤ st.hwm := by
  rw [Store.freeIfReady_eq]
  split
  · exact (h.free_hwm p).1
  · exact le_rfl

/-- A range placed at HWM meets no other. -/
theorem Store.Laid.apart_hwm (h : st.Laid) {e : DirEntry} (hfirst : e.first = st.hwm) {q : Preset}
    (hq : (st.entry q).state ≠ .empty) : e.apart (st.entry q) := .inr (hfirst ▸ h.below q hq)

theorem Store.Sound.openDownload (h : st.Sound) (n : Station) (p : Preset) {k : Nat} (f : ModeFields)
    (hd : st.download = none) (hr : st.recording = none) (hk : 2 ≤ k) (hroom : st.hwm + k ≤ 1024) :
    (st.openDownload n p k f).Sound := by
  have hfreed := h.freeIfReady p
  have hdown : (st.freeIfReady p).download = none := (Store.freeIfReady_download p).trans hd
  have hrec : (st.freeIfReady p).recording = none := (Store.freeIfReady_recording p).trans hr
  have hentry (q : Preset) : (st.openDownload n p k f).entry q =
      if q = p then { state := .loading, first := (st.freeIfReady p).hwm, count := k, fields := f, truncated := false }
      else (st.freeIfReady p).entry q := Store.entry_of_set rfl
  have hsame := (hentry p).trans (if_pos rfl)
  have hfall := h.freeIfReady_hwm p
  have hlaid : (st.openDownload n p k f).Laid := hfreed.laid.written hentry hfreed.canonical (Nat.le_add_right _ k)
    ((Nat.add_le_add_right hfall k).trans hroom) nofun nofun le_rfl fun q _ hq => hfreed.laid.apart_hwm rfl hq
  refine hlaid.sound_download rfl hrec ?_ ?_ ?_ (Nat.zero_le _) fun q hq => ?_
  · exact congrArg DirEntry.state hsame
  · exact hk.trans_eq (congrArg DirEntry.count hsame).symm
  · show ((st.openDownload n p k f).entry p).first + ((st.openDownload n p k f).entry p).count = _
    rw [hsame]
    rfl
  · rw [hentry, if_neg hq]
    exact hfreed.settled hdown hrec q

theorem State.startRecording_sound (h : s.store.Sound) (p : Preset) (interval : Nat) (hd : s.store.download = none)
    (hr : s.store.recording = none) (hroom : s.store.hwm + 2 ≤ 1024) : (s.startRecording p interval).store.Sound := by
  have hfreed := h.freeIfReady p
  have hdown : (s.store.freeIfReady p).download = none := (Store.freeIfReady_download p).trans hd
  have hrec : (s.store.freeIfReady p).recording = none := (Store.freeIfReady_recording p).trans hr
  have hentry (q : Preset) : (s.startRecording p interval).store.entry q =
      if q = p then { state := .recording, first := (s.store.freeIfReady p).hwm, count := 1,
                      fields := ModeFields.initial, truncated := false }
      else (s.store.freeIfReady p).entry q := Store.entry_of_set rfl
  have hsame := (hentry p).trans (if_pos rfl)
  have hfall := h.freeIfReady_hwm p
  have hlaid : (s.startRecording p interval).store.Laid := hfreed.laid.written hentry
    (Pool.wf_write _ _ hfreed.canonical) (Nat.le_add_right _ 1) (by show _ + 1 ≤ _; omega) nofun nofun le_rfl
    fun q _ hq => hfreed.laid.apart_hwm rfl hq
  refine hlaid.sound_recording hdown rfl ?_ ?_ ?_ fun q hq => ?_
  · exact congrArg DirEntry.state hsame
  · exact (congrArg DirEntry.count hsame).ge
  · show ((s.startRecording p interval).store.entry p).first + ((s.startRecording p interval).store.entry p).count = _
    rw [hsame]
    rfl
  · rw [hentry, if_neg hq]
    exact hfreed.settled hdown hrec q

/-- A capture lengthens the one range that ends at HWM. -/
theorem State.capture_sound (h : s.store.Sound) {r r' : Recording} (hr : s.store.recording = some r)
    (hp : r'.preset = r.preset) (t : Nat) (hroom : s.store.hwm < 1024) : (s.capture r' t).store.Sound := by
  have hstate := h.recorder r hr
  obtain ⟨hcount, hend, -⟩ := h.recording r.preset hstate
  have howns : (s.store.entry r.preset).state ≠ .empty := hstate ▸ nofun
  have hentry (q : Preset) := State.capture_entry (s := s) r' t q
  rw [hp] at hentry
  have hsame := (hentry r.preset).trans (if_pos rfl)
  have hlaid : (s.capture r' t).store.Laid := h.laid.written hentry (Pool.wf_write _ _ h.canonical) (Nat.le_succ _) hroom
    howns (fun hready => absurd (hstate.symm.trans hready) nofun) (by
      show (s.store.entry r.preset).first + ((s.store.entry r.preset).count + 1) ≤ s.store.hwm + 1
      omega) fun q hq hown => by
      have hpos := h.count_pos hown
      have hbelow := h.below q hown
      rcases h.apart r.preset q hq.symm howns hown with hap | hap
      · omega
      · exact .inr hap
  have hpreset : ({ r' with lastCapture := t } : Recording).preset = r.preset := hp
  refine hlaid.sound_recording (h.download_none hr) (r := { r' with lastCapture := t }) rfl ?_ ?_ ?_ fun q hq => ?_
  · rw [hpreset, hsame]
    exact hstate
  · rw [hpreset, hsame]
    exact Nat.le_add_left ..
  · rw [hpreset, hsame]
    show (s.store.entry r.preset).first + ((s.store.entry r.preset).count + 1) = s.store.hwm + 1
    omega
  · rw [hpreset] at hq
    rw [hentry, if_neg hq]
    exact h.settled_recording hr hq

/-- The entry in progress becomes READY and nothing is in progress any more (R9, R15). -/
theorem Store.Sound.finish (h : st.Sound) {p : Preset} {e : DirEntry} (hown : (st.entry p).state ≠ .empty)
    (hentry : ∀ q, st'.entry q = if q = p then e else st.entry q) (hfirst : e.first = (st.entry p).first)
    (hcount : e.count = (st.entry p).count) (hstate : e.state = .ready) (htwo : 2 ≤ e.count) (hpool : st'.pool = st.pool)
    (hhwm : st'.hwm = st.hwm) (hd : st'.download = none) (hr : st'.recording = none)
    (hsettled : ∀ q, q ≠ p → (st.entry q).settled) : st'.Sound := by
  have hlaid : st'.Laid := h.laid.written hentry (hpool ▸ h.canonical) hhwm.ge (hhwm ▸ h.hwm) (hstate ▸ nofun)
    (fun _ => htwo) (by rw [hfirst, hcount, hhwm]; exact h.below p hown) fun q hq howned => by
      have hap := h.apart p q hq.symm hown howned
      unfold DirEntry.apart at hap ⊢
      rwa [hfirst, hcount]
  refine hlaid.sound_settled hd hr fun q => ?_
  rw [hentry]
  split
  · exact DirEntry.settled_of_ready hstate
  · exact hsettled q ‹_›

/-- The entry in progress is freed and nothing is in progress any more (R10, R15). -/
theorem Store.Sound.drop (h : st.Sound) {p : Preset} (hfree : st'.directory = (st.free p).directory)
    (hpool : st'.pool = (st.free p).pool) (hhwm : st'.hwm = (st.free p).hwm) (hd : st'.download = none)
    (hr : st'.recording = none) (hsettled : ∀ q, q ≠ p → (st.entry q).settled) : st'.Sound := by
  have hentry (q : Preset) : st'.entry q = (st.free p).entry q := by
    unfold Store.entry
    rw [hfree]
  have hlaid := h.laid_free p
  refine Store.Laid.sound_settled ⟨hpool ▸ hlaid.canonical, hhwm ▸ hlaid.hwm, ?_, ?_, ?_, ?_⟩ hd hr fun q => ?_
  · simpa only [hentry, hhwm] using hlaid.below
  · simpa only [hentry] using hlaid.apart
  · simpa only [hentry] using hlaid.emptyValues
  · simpa only [hentry] using hlaid.ready
  · rw [hentry, Store.free_entry]
    split
    · exact DirEntry.empty_settled
    · exact hsettled q ‹_›

theorem Store.Sound.discard (h : st.Sound) {d : Download} (hd : st.download = some d) :
    Store.Sound { st.free d.preset with download := none } :=
  h.drop rfl rfl rfl rfl (h.recording_none hd) fun _ hq => h.settled_download hd hq

theorem Store.Sound.discardDownload (h : st.Sound) : st.discardDownload.Sound := by
  unfold Store.discardDownload
  split
  · exact h
  · exact h.discard ‹_›

/-! Compaction (R21). -/

theorem Store.Sound.held_eq_sum (h : st.Sound) : st.held = ∑ p : Preset, (st.entry p).count := by
  rw [h.held_eq, Fin.sum_univ_def]
  rfl

/-- Ranges that lie apart below HWM hold no more keyframes than HWM (R2, R18). -/
theorem Store.Sound.held_le_hwm (h : st.Sound) : st.held ≤ st.hwm := by
  have hrange (p : Preset) : Finset.Ico (st.entry p).first ((st.entry p).first + (st.entry p).count) ⊆
      Finset.range st.hwm := fun i hi => by
    rw [Finset.mem_Ico] at hi
    have howns : (st.entry p).state ≠ .empty := fun he => by
      have := h.count_empty he
      omega
    exact Finset.mem_range.mpr (hi.2.trans_le (h.below p howns))
  have hdisjoint : ∀ p ∈ Finset.univ, ∀ q ∈ Finset.univ, p ≠ q →
      Disjoint (Finset.Ico (st.entry p).first ((st.entry p).first + (st.entry p).count))
        (Finset.Ico (st.entry q).first ((st.entry q).first + (st.entry q).count)) := fun p _ q _ hne => by
    rw [Finset.disjoint_left]
    intro i hp hq
    rw [Finset.mem_Ico] at hp hq
    have hpown : (st.entry p).state ≠ .empty := fun he => by
      have := h.count_empty he
      omega
    have hqown : (st.entry q).state ≠ .empty := fun he => by
      have := h.count_empty he
      omega
    rcases h.apart p q hne hpown hqown with hap | hap <;> omega
  calc st.held = ∑ p : Preset, (st.entry p).count := h.held_eq_sum
    _ = ∑ p : Preset, (Finset.Ico (st.entry p).first ((st.entry p).first + (st.entry p).count)).card := by simp
    _ = (Finset.univ.biUnion fun p : Preset =>
          Finset.Ico (st.entry p).first ((st.entry p).first + (st.entry p).count)).card :=
        (Finset.card_biUnion hdisjoint).symm
    _ ≤ (Finset.range st.hwm).card := Finset.card_le_card (Finset.biUnion_subset.mpr fun p _ => hrange p)
    _ = st.hwm := Finset.card_range _

/-- A moved range ends at or below the keyframes held. -/
theorem Store.Sound.movedFirst_le_held (h : st.Sound) (p : Preset) : st.movedFirst p + (st.entry p).count ≤ st.held := by
  rw [h.movedFirst_eq_sum, add_comm, ← Finset.sum_insert (f := fun q => (st.entry q).count) (by simp), h.held_eq_sum]
  exact Finset.sum_le_sum_of_subset (Finset.subset_univ _)

theorem Store.compacted_canonical : st.compacted.pool.wf = true := by
  rw [Store.compacted_pool]
  have hfold : ∀ (l : List Preset) (pool : Pool), pool.wf = true → (l.foldl st.moveRange pool).wf = true := by
    intro l
    induction l with
    | nil => exact fun _ hpool => hpool
    | cons p l ih =>
      refine fun pool hpool => ih _ ?_
      unfold Store.moveRange
      split
      · exact Pool.wf_writeAll _ _ hpool
      · exact hpool
  exact hfold presets [] Pool.wf_nil

theorem Store.compacted_state (p : Preset) : (st.compacted.entry p).state = (st.entry p).state := by
  rw [Store.compacted_entry_kept]

theorem Store.compacted_count (p : Preset) : (st.compacted.entry p).count = (st.entry p).count := by
  rw [Store.compacted_entry_kept]

/-- With nothing in progress the compacted store is sound (R21). -/
theorem Store.Sound.compacted (h : st.Sound) (hd : st.download = none) (hr : st.recording = none) : st.compacted.Sound := by
  have hlaid : st.compacted.Laid := by
    refine ⟨Store.compacted_canonical, ?_, fun p hp => ?_, fun p q hne hp hq => ?_, fun p hp => ?_, fun p hp => ?_⟩
    · rw [Store.compacted_hwm]
      exact h.held_le_hwm.trans h.hwm
    · rw [Store.compacted_state] at hp
      rw [Store.compacted_first hp, Store.compacted_count, Store.compacted_hwm]
      exact h.movedFirst_le_held p
    · rw [Store.compacted_state] at hp hq
      unfold DirEntry.apart
      rw [Store.compacted_first hp, Store.compacted_first hq, Store.compacted_count, Store.compacted_count]
      exact (h.apart p q hne hp hq).imp (h.movedFirst_apart hp) (h.movedFirst_apart hq)
    · rw [Store.compacted_state] at hp
      rw [Store.compacted_entry, if_neg (by simp [DirEntry.owns, hp])]
      exact h.emptyValues p hp
    · rw [Store.compacted_state] at hp
      rw [Store.compacted_count]
      exact h.ready p hp
  refine hlaid.sound_settled (Store.compacted_download.trans hd) (Store.compacted_recording.trans hr) fun q => ?_
  unfold DirEntry.settled
  rw [Store.compacted_state]
  exact h.settled hd hr q

end Sys2Proof.Machine

/-! SUPPORT. Every move keeps the store sound and every referenced preset READY. -/

namespace Sys2Proof.Machine

variable {s t : State} {st : Store}

/-! The store's moves. -/

/-- A download goes on: more of its range is written, or its lapse count changes (R8, R10). -/
theorem Store.Sound.goesOn (h : st.Sound) {d d' : Download} {pool : Pool} (hd : st.download = some d)
    (hp : d'.preset = d.preset) (hindex : d'.nextIndex ≤ (st.entry d.preset).count) (hpool : pool.wf = true) :
    Store.Sound { st with pool := pool, download := some d' } :=
  { h with
    canonical := hpool
    loading := fun q hq => by
      obtain ⟨hcount, hend, d₀, hd₀, hpreset⟩ := h.loading q hq
      cases hd.symm.trans hd₀
      exact ⟨hcount, hend, d', rfl, hp.trans hpreset⟩
    download := fun d₀ hd₀ => by
      cases hd₀
      show (st.entry d'.preset).state = _ ∧ _ ≤ (st.entry d'.preset).count
      rw [hp]
      exact ⟨(h.download d hd).1, hindex⟩ }

/-- The elapsed count of a recording rises (R13). -/
theorem Store.Sound.ticks (h : st.Sound) {r r' : Recording} (hr : st.recording = some r) (hp : r'.preset = r.preset) :
    Store.Sound { st with recording := some r' } :=
  { h with
    recording := fun q hq => by
      obtain ⟨hcount, hend, r₀, hr₀, hpreset⟩ := h.recording q hq
      cases hr.symm.trans hr₀
      exact ⟨hcount, hend, r', rfl, hp.trans hpreset⟩
    recorder := fun r₀ hr₀ => by
      cases hr₀
      show (st.entry r'.preset).state = _
      rw [hp]
      exact h.recorder r hr }

/-- An entry keeps its range and state when its mode fields are edited (R17). -/
theorem Store.Sound.edits (h : st.Sound) {p : Preset} (f : ModeFields) (hp : (st.entry p).state = .ready) :
    (st.setEntry p { st.entry p with fields := f }).Sound := by
  have howns : (st.entry p).state ≠ .empty := hp ▸ nofun
  have hentry := fun q => Store.setEntry_entry (st := st) p q { st.entry p with fields := f }
  have hlaid : (st.setEntry p { st.entry p with fields := f }).Laid :=
    h.laid.written hentry h.canonical le_rfl h.hwm howns (h.ready p) (h.below p howns)
      fun q hq hown => h.apart p q hq.symm howns hown
  have hkept {q : Preset} (hq : (st.entry q).state ≠ .ready) :
      (st.setEntry p { st.entry p with fields := f }).entry q = st.entry q :=
    (hentry q).trans (if_neg fun hqp : q = p => hq (hqp ▸ hp))
  have hstate (q : Preset) : ((st.setEntry p { st.entry p with fields := f }).entry q).state = (st.entry q).state := by
    rw [hentry]
    split
    · rename_i hqp
      rw [hqp]
    · rfl
  exact
  { hlaid with
    loading := fun q hq => by
      rw [hstate] at hq
      rw [hkept (hq ▸ nofun)]
      exact h.loading q hq
    recording := fun q hq => by
      rw [hstate] at hq
      rw [hkept (hq ▸ nofun)]
      exact h.recording q hq
    download := fun d hd => by
      have hload := (h.download d hd).1
      rw [hkept (hload ▸ nofun)]
      exact h.download d hd
    recorder := fun r hr => (hstate _).trans (h.recorder r hr) }

/-- A compaction in flight has no download and no recording beside it (R20). -/
theorem State.ModeSound.compacting_idle (h : s.ModeSound) (hc : s.store.compacting = true) :
    s.store.download = none ∧ s.store.recording = none := by
  obtain ⟨hdown, hrec⟩ := h.oneInProgress
  refine ⟨?_, ?_⟩
  · by_contra hd
    exact nomatch (hdown (Option.isSome_iff_ne_none.mpr hd)).2.symm.trans hc
  · by_contra hr
    exact nomatch (hrec (Option.isSome_iff_ne_none.mpr hr)).symm.trans hc

/-- The pending check says nothing of directory, pool and contexts. -/
theorem Store.Sound.setCheck (h : st.Sound) (b : Bool) : Store.Sound { st with rangeCheckDue := b } := by
  obtain ⟨h1, h2, h3, h4, h5, h6, h7, h8, h9, h10⟩ := h
  exact ⟨h1, h2, h3, h4, h5, h6, h7, h8, h9, h10⟩

theorem State.completeCompaction_sound (h : s.store.Sound) (hmode : s.ModeSound) (hc : s.store.compacting = true) :
    s.completeCompaction.store.Sound := by
  obtain ⟨hd, hr⟩ := hmode.compacting_idle hc
  have hmoved := h.compacted hd hr
  by_cases hdue : s.store.rangeCheckDue = true
  · rw [State.completeCompaction_due hdue, State.setStore_store]
    exact (hmoved.checkRanges s.record.lo s.record.hi).setCheck false
  · rw [State.completeCompaction_plain (Bool.eq_false_of_not_eq_true hdue)]
    exact hmoved

/-- Every move of the store keeps it sound. -/
theorem StoreMove.sound (h : s.store.Sound) (hmode : s.ModeSound) (m : StoreMove s st) : st.Sound := by
  cases m with
  | opens n p k f hfrozen hd hr hc href hk hroom => exact h.openDownload n p f hd hr hk hroom
  | ages hd hp hn => exact h.goesOn hd hp (hn ▸ (h.download _ hd).2) h.canonical
  | writes hd hp hn hroom => exact h.goesOn hd hp (hn ▸ hroom) (Pool.wf_writeAll _ _ h.canonical)
  | closes hd =>
    rename_i d _
    have hload := (h.download d hd).1
    exact h.finish (hload ▸ nofun) (fun q => Store.entry_of_set rfl) rfl rfl rfl (h.loading _ hload).1 rfl rfl rfl
      (h.recording_none hd) fun q hq => h.settled_download hd hq
  | discards hd => exact h.discard hd
  | records p interval hrun hd hr hc href hroom => exact State.startRecording_sound h p interval hd hr hroom
  | ticks hr => exact h.ticks hr rfl
  | captures hr hr' hroom =>
    refine State.capture_sound h hr ?_ _ hroom
    rcases hr' with ⟨rfl, -⟩ | rfl <;> rfl
  | finishes b hr hp hcount =>
    subst hp
    exact h.finish (h.recorder _ hr ▸ nofun) (fun q => Store.entry_of_set rfl) rfl rfl rfl hcount rfl rfl
      (h.download_none hr) rfl fun q hq => h.settled_recording hr hq
  | abandons hr hp =>
    subst hp
    exact h.drop rfl rfl rfl (h.download_none hr) rfl fun q hq => h.settled_recording hr hq
  | erases hp => exact h.free_ready hp
  | edits f hp => exact h.edits f hp
  | compacts hn hrun hd hr => exact { h with }
  | completes hc => exact State.completeCompaction_sound h hmode hc

/-- Nothing is referenced where both slots are empty. -/
theorem State.not_referenced (hn : s.next.state = .empty) (hr : s.running.state = .idle) (p : Preset) :
    ¬ s.referenced p = true := by
  simp [State.referenced, hn, hr]

/-- A READY preset that a slot references stays READY at every move of the store. -/
theorem StoreMove.referenced_ready (hmode : s.ModeSound) (m : StoreMove s st) {q : Preset} (href : s.referenced q = true)
    (hq : (s.store.entry q).state = .ready) (h : s.store.Sound) : (st.entry q).state = .ready := by
  have hother {p : Preset} (hp : s.referenced p = false) : q ≠ p := fun hqp => by
    rw [hqp, hp] at href
    cases href
  cases m with
  | opens n p k f hfrozen hd hr hc hp => rwa [Store.openDownload_entry, if_neg (hother hp)]
  | records p interval hrun hd hr hc hp => rwa [State.startRecording_entry, if_neg (hother hp)]
  | ages | writes | ticks | compacts => exact hq
  | closes =>
    show ((Store.setEntry _ _ _).entry q).state = _
    rw [Store.setEntry_entry]
    split
    · rfl
    · exact hq
  | finishes =>
    show ((Store.setEntry _ _ _).entry q).state = _
    rw [Store.setEntry_entry]
    split
    · rfl
    · exact hq
  | edits f hp =>
    rw [Store.setEntry_entry]
    split
    · exact hp
    · exact hq
  | erases hp hfree => rwa [Store.free_entry, if_neg (hother hfree)]
  | discards hd =>
    have hload := (h.download _ hd).1
    show ((s.store.free _).entry q).state = _
    rwa [Store.free_entry, if_neg (Store.ne_of_state (by rw [hq, hload]; decide))]
  | abandons hr hp =>
    subst hp
    have hrec := h.recorder _ hr
    show ((s.store.free _).entry q).state = _
    rwa [Store.free_entry, if_neg (Store.ne_of_state (by rw [hq, hrec]; decide))]
  | captures hr hr' =>
    rename_i r r' _
    have hrec := h.recorder _ hr
    have hp : r'.preset = r.preset := by rcases hr' with ⟨rfl, -⟩ | rfl <;> rfl
    rwa [State.capture_entry, if_neg (hp ▸ Store.ne_of_state (by rw [hq, hrec]; decide))]
  | completes hc =>
    obtain ⟨hn, hidle⟩ := hmode.compactingIdle hc
    exact absurd href (State.not_referenced hn hidle q)

/-! The other moves. -/

/-- A move that leaves the store alone and references nothing new keeps StoreSound. -/
theorem State.StoreSound.slots (h : s.StoreSound) (hstore : t.store = s.store)
    (href : ∀ p, t.referenced p = true → s.referenced p = true ∨ (s.store.entry p).state = .ready) : t.StoreSound := by
  refine ⟨hstore ▸ h.store, fun p hp => ?_⟩
  rw [hstore]
  exact (href p hp).elim (h.referenced p) id

theorem State.referenced_iff (p : Preset) : s.referenced p = true ↔
    s.next.state ≠ .empty ∧ s.next.preset = p ∨ s.running.state ≠ .idle ∧ s.running.preset = p := by
  simp [State.referenced]

/-- The start record frozen keeps the store sound, whatever the check frees (R23). -/
theorem Store.Sound.checkFrozen (h : st.Sound) (w : StartRecord) : (st.checkFrozen w).Sound := by
  unfold Store.checkFrozen
  split
  · exact h.setCheck true
  · exact h.checkRanges w.lo w.hi

/-- Every move keeps StoreSound. -/
theorem Move.storeSound (h : s.StoreSound) (hmode : s.ModeSound) (m : Move s t) : t.StoreSound := by
  cases m with
  | aside hsame =>
    refine h.slots hsame.store fun p hp => .inl ?_
    unfold State.referenced at hp ⊢
    rwa [hsame.next, hsame.running] at hp
  | store hmove =>
    exact ⟨hmove.sound h.store hmode, fun p hp => hmove.referenced_ready hmode hp (h.referenced p hp) h.store⟩
  | loads p id c hst hc hp =>
    refine h.slots rfl fun q hq => ?_
    rcases (State.referenced_iff q).mp hq with ⟨-, hqp⟩ | hrunning
    · obtain rfl : p = q := hqp
      exact .inr hp
    · exact .inl ((State.referenced_iff q).mpr (.inr hrunning))
  | seeks c hc hrun hidle hn =>
    refine h.slots rfl fun q hq => .inl ((State.referenced_iff q).mpr ?_)
    exact ((State.referenced_iff q).mp hq).imp_left fun hnext => ⟨hn, hnext.2⟩
  | unseeks =>
    refine h.slots rfl fun q hq => .inl ((State.referenced_iff q).mpr ?_)
    exact ((State.referenced_iff q).mp hq).imp_left fun hnext =>
      ⟨fun he => hnext.1 ((NextSlot.backToLoaded_empty _).mpr he), (NextSlot.backToLoaded_preset _).symm.trans hnext.2⟩
  | starts m hrun hn =>
    refine h.slots rfl fun q hq => .inl ((State.referenced_iff q).mpr ?_)
    rcases (State.referenced_iff q).mp hq with hnext | hrunning
    · exact absurd rfl hnext.1
    · exact .inl ⟨hn, hrunning.2⟩
  | idles =>
    refine h.slots rfl fun q hq => .inl ((State.referenced_iff q).mpr ?_)
    exact ((State.referenced_iff q).mp hq).imp_right fun hrunning => absurd rfl hrunning.1
  | runs r hs hr hp =>
    refine h.slots rfl fun q hq => .inl ((State.referenced_iff q).mpr ?_)
    exact ((State.referenced_iff q).mp hq).imp_right fun hrunning => ⟨hs, hp.symm.trans hrunning.2⟩
  | blends | triggers | latches | rests | enters | stages => exact h.slots rfl fun q hq => .inl hq
  | halts v =>
    refine h.slots rfl fun q hq => .inl ((State.referenced_iff q).mpr ?_)
    rcases (State.referenced_iff q).mp hq with hnext | hrunning
    · exact .inl ⟨fun he => hnext.1 ((NextSlot.backToLoaded_empty _).mpr he),
        (NextSlot.backToLoaded_preset _).symm.trans hnext.2⟩
    · exact absurd rfl hrunning.1
  | freezes w hst hw =>
    have hidle := hmode.cueInRun (hst ▸ nofun)
    exact ⟨h.store.checkFrozen w, fun q hq => absurd hq (State.not_referenced (hmode.configEmpty hst) hidle q)⟩
  | restarts straps hr =>
    refine ⟨?_, fun q hq => absurd hq (State.not_referenced rfl rfl q)⟩
    rw [State.restarted_store, State.endRecording_none hr]
    exact h.store.discardDownload

theorem State.StoreSound.rstnAsserted (h : s.StoreSound) (hmode : s.ModeSound) : s.rstnAsserted.StoreSound := by
  unfold State.rstnAsserted
  split
  · rename_i hc
    obtain ⟨hn, hidle⟩ := hmode.compactingIdle hc
    exact ⟨Store.reset_sound, fun q hq => absurd hq (State.not_referenced hn hidle q)⟩
  · exact { h with }

theorem storeSound_stepInvariant : StepInvariant fun s => s.ModeSound ∧ s.StoreSound where
  modeSound h := h.1
  afterReset straps pins := ⟨State.afterReset_modeSound straps pins, State.afterReset_storeSound straps pins⟩
  setPending q h := ⟨modeSound_stepInvariant.setPending q h.1, { h.2 with }⟩
  setDrdy b h := ⟨modeSound_stepInvariant.setDrdy b h.1, { h.2 with }⟩
  rstnAsserted h := ⟨h.1.rstnAsserted, h.2.rstnAsserted h.1⟩
  move hrst h m := ⟨m.modeSound h.1 hrst, m.storeSound h.2 h.1⟩

/-- Settles O6: every move keeps the store sound, and no move frees what a slot references. -/
theorem stepKeepsStoreSound : Obligations.StepKeepsStoreSound := fun _ _ hmode h hstep =>
  (storeSound_stepInvariant.step ⟨hmode, h⟩ hstep).2

end Sys2Proof.Machine

/-! SUPPORT. Every move keeps every READY preset playable and within the soft range, and the recording so far on its way
there. -/

namespace Sys2Proof.Machine

variable {s t : State} {st st' : Store}

/-! Lists that can be played. -/

theorem rising_of_firstNotRising_none {ks : List Keyframe} {n : Nat} (h : firstNotRising ks n = none) :
    ks.Pairwise fun a b => a.time < b.time := by
  fun_induction firstNotRising ks n with
  | case1 a b rest n hab => exact nomatch h
  | case2 a b rest n hab ih =>
    have htail := ih h
    have hlt : a.time < b.time := Nat.lt_of_not_le hab
    refine List.pairwise_cons.mpr ⟨fun c hc => ?_, htail⟩
    rcases List.mem_cons.mp hc with rfl | hc
    · exact hlt
    · exact hlt.trans ((List.pairwise_cons.mp htail).1 c hc)
  | case3 ks n hshort =>
    match ks with
    | [] => exact .nil
    | [a] => exact List.pairwise_singleton _ a
    | a :: b :: rest => exact absurd rfl (hshort a b rest)

theorem inside_of_firstOutside_none {lo hi : Int} {ks : List Keyframe} {n : Nat} (h : firstOutside lo hi ks n = none) :
    ∀ k ∈ ks, lo ≤ k.position ∧ k.position ≤ hi := fun k hk => by
  by_contra hout
  have hsome := (firstOutside_isSome lo hi ks n).mpr ⟨k, hk, by omega⟩
  rw [h] at hsome
  cases hsome

/-- Where every check of PRESET_CLOSE passes the list is playable and inside the soft range (R9). -/
theorem content_of_closeFailure_none {lo hi : Int} {count index : Nat} {ks : List Keyframe}
    (h : closeFailure lo hi count index ks = none) : playable ks ∧ ∀ k ∈ ks, lo ≤ k.position ∧ k.position ≤ hi := by
  unfold closeFailure at h
  split at h
  · cases h
  split at h
  · cases h
  rename_i hstart
  split at h
  · cases h
  rename_i hrising
  split at h
  · cases h
  rename_i hinside
  exact ⟨⟨not_not.mp hstart, rising_of_firstNotRising_none hrising⟩, inside_of_firstOutside_none hinside⟩

/-- In a list whose times rise no keyframe is later than the last. -/
theorem time_le_last {ks : List Keyframe} (h : ks.Pairwise fun a b => a.time < b.time) :
    ∀ k ∈ ks, k.time ≤ (ks.getLastD Keyframe.blank).time := by
  induction ks with
  | nil => exact nofun
  | cons a rest ih =>
    obtain ⟨hhead, htail⟩ := List.pairwise_cons.mp h
    cases rest with
    | nil =>
      intro k hk
      rw [List.mem_singleton.mp hk]
      exact le_rfl
    | cons b rest =>
      have hlast := ih htail
      intro k hk
      rcases List.mem_cons.mp hk with rfl | hk
      · exact (hhead b List.mem_cons_self).le.trans (hlast b List.mem_cons_self)
      · exact hlast k hk

/-- A keyframe later than the last makes a longer list that can be played (R13). -/
theorem playable_append {ks : List Keyframe} {k : Keyframe} (h : playable ks) (hne : ks ≠ [])
    (hlate : (ks.getLastD Keyframe.blank).time < k.time) : playable (ks ++ [k]) := by
  obtain ⟨hstart, hrise⟩ := h
  refine ⟨?_, List.pairwise_append.mpr ⟨hrise, List.pairwise_singleton _ k, fun a ha b hb => ?_⟩⟩
  · cases ks with
    | nil => exact absurd rfl hne
    | cons a rest => exact hstart
  · rw [List.mem_singleton.mp hb]
    exact (time_le_last hrise a ha).trans_lt hlate

theorem Pool.range_succ (p : Pool) (first n : Nat) : p.range first (n + 1) = p.range first n ++ [p.read (first + n)] := by
  simp [Pool.range, List.range_succ]

/-! Stores whose READY presets were READY before, with the same keyframes. -/

/-- Every READY preset of st' was READY in st, with the same keyframes. -/
def Store.ReadyFrom (st st' : Store) : Prop :=
  ∀ p : Preset, (st'.entry p).state = .ready → (st.entry p).state = .ready ∧ st'.keyframes p = st.keyframes p

theorem Store.ReadyFrom.rfl : st.ReadyFrom st := fun _ hp => ⟨hp, .refl _⟩

theorem Store.ReadyFrom.trans {u v : Store} (h : st.ReadyFrom u) (h' : u.ReadyFrom v) : st.ReadyFrom v := fun p hp => by
  obtain ⟨hu, hkeys⟩ := h' p hp
  exact ⟨(h p hu).1, hkeys.trans (h p hu).2⟩

theorem Store.Sound.free_readyFrom (h : st.Sound) {p : Preset} (hp : (st.entry p).state ≠ .empty) :
    st.ReadyFrom (st.free p) := fun q hq => by
  have hne : q ≠ p := fun hqp => by
    rw [Store.free_entry, if_pos hqp] at hq
    cases hq
  obtain ⟨hentry, hkeys⟩ := h.free_other hp hne
  exact ⟨hentry ▸ hq, hkeys⟩

theorem Store.Sound.freeIfReady_readyFrom (h : st.Sound) (p : Preset) : st.ReadyFrom (st.freeIfReady p) := by
  rw [Store.freeIfReady_eq]
  split
  · rename_i hp
    exact h.free_readyFrom (hp ▸ nofun)
  · exact .rfl

theorem Store.Sound.discardDownload_readyFrom (h : st.Sound) : st.ReadyFrom st.discardDownload := by
  unfold Store.discardDownload
  split
  · exact .rfl
  · rename_i d hd
    exact h.free_readyFrom ((h.download d hd).1 ▸ nofun)

/-- Keyframes below the index written to are kept (R2). -/
theorem Store.keyframes_write {p : Preset} {i : Nat} {k : Keyframe} (hentry : st'.entry p = st.entry p)
    (hpool : st'.pool = st.pool.write i k) (hbelow : (st.entry p).first + (st.entry p).count ≤ i) :
    st'.keyframes p = st.keyframes p := by
  unfold Store.keyframes
  rw [hentry, hpool]
  refine Pool.range_congr fun j hj => ?_
  rw [Pool.read_write, if_neg (by omega)]

/-- An entry written over its own range, the pool as it stands, keeps every keyframe. -/
theorem Store.keyframes_rewritten {p : Preset} {e : DirEntry}
    (hentry : ∀ q, st'.entry q = if q = p then e else st.entry q) (hfirst : e.first = (st.entry p).first)
    (hcount : e.count = (st.entry p).count) (hpool : st'.pool = st.pool) (q : Preset) :
    st'.keyframes q = st.keyframes q := by
  unfold Store.keyframes
  rw [hentry, hpool]
  split
  · rename_i hqp
    rw [hfirst, hcount, hqp]
  · rfl

/-- After the check of a soft range every READY preset lies within it (R23). -/
theorem Store.Sound.checkRanges_ready (h : st.Sound) (lo hi : Int) {p : Preset}
    (hp : ((st.checkRanges lo hi).entry p).state = .ready) :
    (st.entry p).state = .ready ∧ (st.checkRanges lo hi).keyframes p = st.keyframes p ∧
    ∀ k ∈ st.keyframes p, lo ≤ k.position ∧ k.position ≤ hi := by
  obtain ⟨hfreed, hkept⟩ := (Store.checkEntries_spec lo hi presets st h).2 p
  have hready : (st.entry p).state = .ready := by
    by_contra hnot
    exact hnot ((hkept (.inl hnot)).1 ▸ hp)
  have hinside : ∀ k ∈ st.keyframes p, lo ≤ k.position ∧ k.position ≤ hi := by
    by_contra hout
    push Not at hout
    obtain ⟨k, hk, hlow⟩ := hout
    have hempty := hfreed (mem_presets p) hready ⟨k, hk, by by_contra hin; omega⟩
    rw [Store.checkRanges, hempty] at hp
    cases hp
  exact ⟨hready, (hkept (.inr (.inl hinside))).2, hinside⟩

theorem Store.Sound.checkRanges_readyFrom (h : st.Sound) (lo hi : Int) : st.ReadyFrom (st.checkRanges lo hi) :=
  fun _ hp => ⟨(h.checkRanges_ready lo hi hp).1, (h.checkRanges_ready lo hi hp).2.1⟩

theorem Store.Sound.compacted_readyFrom (h : st.Sound) : st.ReadyFrom st.compacted :=
  fun p hp => ⟨(Store.compacted_state p).symm.trans hp, h.compacted_keyframes p⟩

/-! The recording so far. -/

/-- What a recording has captured so far can be played, lies in the soft range and ends at the last capture (R12, R13). -/
def Store.Captured (st : Store) (w : StartRecord) (r : Recording) : Prop :=
  playable (st.keyframes r.preset) ∧ insideRange w (st.keyframes r.preset) ∧
  ((st.keyframes r.preset).getLastD Keyframe.blank).time = r.lastCapture ∧ r.lastCapture ≤ r.elapsed

theorem State.record_eq {r : StartRecord} (h : s.start.record = some r) : s.record = r := by
  rw [State.record, h]
  rfl

/-- A captured position lies within the soft range (R13). -/
theorem State.capturedKeyframe_inside (h : s.record.lo ≤ s.record.hi) (n : Nat) :
    s.record.lo ≤ (s.capturedKeyframe n).position ∧ (s.capturedKeyframe n).position ≤ s.record.hi := by
  rw [State.capturedKeyframe_eq]
  dsimp only
  omega

theorem State.startRecording_captured (hrange : s.record.lo ≤ s.record.hi) (p : Preset) (interval : Nat) :
    (s.startRecording p interval).store.Captured s.record
      { preset := p, interval := interval, elapsed := 0, lastCapture := 0 } := by
  have hkeys : (s.startRecording p interval).store.keyframes p = [s.capturedKeyframe 0] := by
    unfold Store.keyframes
    rw [State.startRecording_entry, if_pos rfl]
    simp [Pool.range, State.startRecording_read]
  unfold Store.Captured
  rw [hkeys]
  exact ⟨⟨rfl, List.pairwise_singleton _ _⟩, fun k hk => List.mem_singleton.mp hk ▸ State.capturedKeyframe_inside hrange 0,
    rfl, le_rfl⟩

/-- A capture appends the keyframe taken (R13, R15). -/
theorem State.capture_keyframes (h : s.store.Sound) {r r' : Recording} (hr : s.store.recording = some r)
    (hp : r'.preset = r.preset) (n : Nat) :
    (s.capture r' n).store.keyframes r.preset = s.store.keyframes r.preset ++ [s.capturedKeyframe n] := by
  obtain ⟨hcount, hend, -⟩ := h.recording r.preset (h.recorder r hr)
  have hrange : (s.capture r' n).store.pool.range (s.store.entry r.preset).first (s.store.entry r.preset).count =
      s.store.keyframes r.preset := Pool.range_congr fun j hj => by
    rw [State.capture_read, if_neg (by omega)]
  have hlast : (s.capture r' n).store.pool.read ((s.store.entry r.preset).first + (s.store.entry r.preset).count) =
      s.capturedKeyframe n := by rw [State.capture_read, if_pos hend.symm]
  rw [Store.keyframes, State.capture_entry, if_pos hp.symm, hp]
  show Pool.range _ (s.store.entry r.preset).first ((s.store.entry r.preset).count + 1) = _
  rw [Pool.range_succ, hrange, hlast]

theorem Store.Sound.recording_nonempty (h : st.Sound) {r : Recording} (hr : st.recording = some r) :
    st.keyframes r.preset ≠ [] := fun hnil => by
  have hcount := (h.recording r.preset (h.recorder r hr)).1
  have hlen : (st.keyframes r.preset).length = (st.entry r.preset).count := Pool.range_length ..
  rw [hnil] at hlen
  rw [← hlen] at hcount
  exact absurd hcount (by decide)

theorem State.capture_captured (h : s.store.Sound) (hrange : s.record.lo ≤ s.record.hi) {r r' : Recording}
    (hr : s.store.recording = some r) (hp : r'.preset = r.preset) (hlate : r.lastCapture < r'.elapsed)
    (hcap : s.store.Captured s.record r) :
    (s.capture r' r'.elapsed).store.Captured s.record { r' with lastCapture := r'.elapsed } := by
  obtain ⟨hplay, hinside, hlast, -⟩ := hcap
  have hkeys := State.capture_keyframes h hr hp r'.elapsed
  unfold Store.Captured
  dsimp only
  rw [hp, hkeys]
  refine ⟨playable_append hplay (h.recording_nonempty hr) (hlast ▸ hlate), fun k hk => ?_, ?_, le_rfl⟩
  · rcases List.mem_append.mp hk with hk | hk
    · exact hinside k hk
    · exact List.mem_singleton.mp hk ▸ State.capturedKeyframe_inside hrange _
  · rw [List.getLastD_concat]
    rfl

/-! The moves of the store. -/

/-- What a store may become under ContentSound: what is READY was READY or can be played within the soft range, no check is
forgotten, and what a recording holds is captured. -/
theorem State.ContentSound.setStore (h : s.ContentSound)
    (hready : ∀ p, (st.entry p).state = .ready →
      (Machine.playable (st.keyframes p) ∧ insideRange s.record (st.keyframes p)) ∨
      (s.store.entry p).state = .ready ∧ st.keyframes p = s.store.keyframes p)
    (hdue : st.rangeCheckDue = false → s.store.rangeCheckDue = false ∨
      ∀ p, (st.entry p).state = .ready → insideRange s.record (st.keyframes p))
    (hcap : ∀ r, st.recording = some r → st.Captured s.record r) : (s.setStore st).ContentSound where
  softRange := h.softRange
  stagedRange := h.stagedRange
  playable p hp := (hready p hp).elim (fun hnew => hnew.1) fun hold => by
    show Machine.playable (st.keyframes p)
    rw [hold.2]
    exact h.playable p hold.1
  inside p r hr hnot hp := by
    show insideRange r (st.keyframes p)
    rcases hdue hnot with hdue | hall
    · rcases hready p hp with hnew | hold
      · exact State.record_eq hr ▸ hnew.2
      · rw [hold.2]
        exact h.inside p r hr hdue hold.1
    · exact State.record_eq hr ▸ hall p hp
  captured := hcap

/-- A store with nothing newly READY, the check as it was pending and no recording or the captured one. -/
theorem State.ContentSound.setStore_from (h : s.ContentSound) (hready : s.store.ReadyFrom st)
    (hdue : st.rangeCheckDue = s.store.rangeCheckDue) (hcap : ∀ r, st.recording = some r → st.Captured s.record r) :
    (s.setStore st).ContentSound :=
  h.setStore (fun p hp => .inr (hready p hp)) (fun hnot => .inl (hdue ▸ hnot)) hcap

/-- The entry in progress becomes READY with keyframes that can be played within the soft range (R9, R15). -/
theorem State.ContentSound.finish (h : s.ContentSound) {p : Preset} {e : DirEntry}
    (hentry : ∀ q, st.entry q = if q = p then e else s.store.entry q) (hfirst : e.first = (s.store.entry p).first)
    (hcount : e.count = (s.store.entry p).count) (hpool : st.pool = s.store.pool)
    (hdue : st.rangeCheckDue = s.store.rangeCheckDue) (hrec : st.recording = none)
    (hplay : Machine.playable (s.store.keyframes p)) (hinside : insideRange s.record (s.store.keyframes p)) :
    (s.setStore st).ContentSound := by
  have hkeys := Store.keyframes_rewritten hentry hfirst hcount hpool
  refine h.setStore (fun q hq => ?_) (fun hnot => .inl (hdue ▸ hnot)) fun r hr => absurd (hrec.symm.trans hr) nofun
  rw [hkeys]
  rw [hentry] at hq
  split at hq
  · rename_i hqp
    exact .inl (hqp ▸ ⟨hplay, hinside⟩)
  · exact .inr ⟨hq, rfl⟩

/-- While a recording runs the start record is frozen, so its soft range is one (R11, R177). -/
theorem State.ContentSound.range_of_run (h : s.ContentSound) (hmode : s.ModeSound) (hrun : s.halt.station = .run) :
    s.record.lo ≤ s.record.hi := by
  obtain ⟨w, hw⟩ := Option.isSome_iff_exists.mp (hmode.frozenOutside (hrun ▸ nofun))
  rw [State.record_eq hw]
  exact (h.softRange w hw).le

/-- Every move of the store keeps ContentSound. -/
theorem StoreMove.contentSound (h : s.ContentSound) (hsound : s.store.Sound) (hmode : s.ModeSound) (m : StoreMove s st) :
    (s.setStore st).ContentSound := by
  have hcapNone {st : Store} (hr : st.recording = none) : ∀ r, st.recording = some r → st.Captured s.record r :=
    fun r hsome => absurd (hr.symm.trans hsome) nofun
  cases m with
  | opens n p k f hfrozen hd hr hc href hk hroom =>
    refine h.setStore_from ?_ (Store.freeIfReady_rangeCheckDue p) (hcapNone ((Store.freeIfReady_recording p).trans hr))
    refine (hsound.freeIfReady_readyFrom p).trans fun q hq => ?_
    have hne : q ≠ p := fun hqp => by
      rw [Store.openDownload_entry, if_pos hqp] at hq
      cases hq
    have hentry : (s.store.openDownload n p k f).entry q = (s.store.freeIfReady p).entry q :=
      (Store.entry_of_set rfl).trans (if_neg hne)
    refine ⟨hentry ▸ hq, ?_⟩
    unfold Store.keyframes
    rw [hentry]
    rfl
  | ages hd => exact h.setStore_from .rfl rfl (hcapNone (hsound.recording_none hd))
  | writes hd hp hn hroom =>
    rename_i d d' ks
    have hload := (hsound.download d hd).1
    refine h.setStore_from (fun q hq => ⟨hq, ?_⟩) rfl (hcapNone (hsound.recording_none hd))
    have hne : q ≠ d.preset := Store.ne_of_state (by rw [show (s.store.entry q).state = _ from hq, hload]; decide)
    unfold Store.keyframes
    refine Pool.range_congr fun j hj => ?_
    refine Pool.read_writeAll_outside _ _ _ _ ?_
    have hj : j < (s.store.entry q).count := hj
    show (s.store.entry q).first + j < _ ∨ _ ≤ (s.store.entry q).first + j
    have hq' : (s.store.entry q).state = .ready := hq
    rcases hsound.apart q d.preset hne (hq' ▸ nofun) (hload ▸ nofun) with hap | hap <;> omega
  | closes hd hchecks =>
    rename_i d
    obtain ⟨hplay, hinside⟩ := content_of_closeFailure_none hchecks
    exact h.finish (fun q => Store.entry_of_set rfl) rfl rfl rfl rfl (hsound.recording_none hd) hplay hinside
  | discards hd =>
    exact h.setStore_from (hsound.free_readyFrom ((hsound.download _ hd).1 ▸ nofun)) rfl
      (hcapNone (hsound.recording_none hd))
  | records p interval hrun hd hr hc href hroom =>
    refine h.setStore_from ?_ (Store.freeIfReady_rangeCheckDue p) fun r hsome => ?_
    · refine (hsound.freeIfReady_readyFrom p).trans fun q hq => ?_
      have hne : q ≠ p := fun hqp => by
        rw [State.startRecording_entry, if_pos hqp] at hq
        cases hq
      have hentry : (s.startRecording p interval).store.entry q = (s.store.freeIfReady p).entry q :=
        (Store.entry_of_set rfl).trans (if_neg hne)
      have hq' : ((s.store.freeIfReady p).entry q).state = .ready := hentry ▸ hq
      exact ⟨hq', Store.keyframes_write hentry rfl ((hsound.freeIfReady p).below q (hq' ▸ nofun))⟩
    · cases hsome
      exact State.startRecording_captured (h.range_of_run hmode hrun) p interval
  | ticks hr =>
    refine h.setStore_from .rfl rfl fun r' hsome => ?_
    cases hsome
    obtain ⟨hplay, hinside, hlast, hle⟩ := h.captured _ hr
    exact ⟨hplay, hinside, hlast, hle.trans (Nat.le_succ _)⟩
  | captures hr hr' hroom =>
    rename_i r r'
    have hrec := hsound.recorder r hr
    obtain ⟨hplay, hinside, hlast, hle⟩ := h.captured r hr
    obtain ⟨hp, hlate⟩ : r'.preset = r.preset ∧ r.lastCapture < r'.elapsed := by
      rcases hr' with ⟨rfl, hne⟩ | rfl
      · exact ⟨rfl, lt_of_le_of_ne hle hne.symm⟩
      · exact ⟨rfl, Nat.lt_succ_of_le hle⟩
    have hrange := h.range_of_run hmode (hmode.recordingInRun (hr ▸ rfl))
    refine h.setStore_from (fun q hq => ?_) rfl fun r₀ hsome => ?_
    · have hne : q ≠ r.preset := fun hqp => by
        rw [State.capture_entry, hp, if_pos hqp] at hq
        exact nomatch hrec.symm.trans hq
      have hentry : (s.capture r' r'.elapsed).store.entry q = s.store.entry q :=
        (State.capture_entry ..).trans (if_neg (hp ▸ hne))
      rw [hentry] at hq
      exact ⟨hq, Store.keyframes_write hentry rfl (hsound.below q (hq ▸ nofun))⟩
    · cases hsome
      exact State.capture_captured hsound hrange hr hp hlate
        ⟨hplay, hinside, hlast, hle⟩
  | finishes b hr hp =>
    subst hp
    rename_i r _
    obtain ⟨hplay, hinside, -, -⟩ := h.captured r hr
    exact h.finish (fun q => Store.entry_of_set rfl) rfl rfl rfl rfl rfl hplay hinside
  | abandons hr hp =>
    subst hp
    exact h.setStore_from (hsound.free_readyFrom (hsound.recorder _ hr ▸ nofun)) rfl (hcapNone rfl)
  | erases hp =>
    refine h.setStore_from (hsound.free_readyFrom (hp ▸ nofun)) rfl fun r hr => ?_
    rename_i p _
    have hr : s.store.recording = some r := hr
    have hne : r.preset ≠ p := Store.ne_of_state (by rw [hsound.recorder r hr, hp]; decide)
    unfold Store.Captured
    rw [(hsound.free_other (hp ▸ nofun) hne).2]
    exact h.captured r hr
  | edits f hp =>
    rename_i p
    have hentry := fun q => Store.setEntry_entry (st := s.store) p q { s.store.entry p with fields := f }
    have hkeys := Store.keyframes_rewritten hentry rfl rfl rfl
    refine h.setStore_from (fun q hq => ⟨?_, hkeys q⟩) rfl fun r hr => ?_
    · rw [hentry] at hq
      split at hq
      · rename_i hqp
        exact hqp ▸ hp
      · exact hq
    · unfold Store.Captured
      rw [hkeys]
      exact h.captured r hr
  | compacts hn hrun hd hr => exact h.setStore_from .rfl rfl (hcapNone hr)
  | completes hc =>
    obtain ⟨hd, hr⟩ := hmode.compacting_idle hc
    have hmoved := hsound.compacted hd hr
    obtain ⟨-, hrec, -, -⟩ := State.completeCompaction_frame (s := s)
    have hcap := hcapNone (hrec.trans hr)
    by_cases hdue : s.store.rangeCheckDue = true
    · rw [State.completeCompaction_due hdue, State.setStore_store] at hcap ⊢
      have hfrom := hsound.compacted_readyFrom.trans (hmoved.checkRanges_readyFrom s.record.lo s.record.hi)
      have hinside (p : Preset) (hp : ((s.store.compacted.checkRanges s.record.lo s.record.hi).entry p).state = .ready) :
          insideRange s.record ((s.store.compacted.checkRanges s.record.lo s.record.hi).keyframes p) := by
        obtain ⟨-, hkeys, hin⟩ := hmoved.checkRanges_ready _ _ hp
        rw [hkeys]
        exact hin
      generalize s.store.compacted.checkRanges s.record.lo s.record.hi = checked at hcap hfrom hinside ⊢
      exact h.setStore (fun p hp => .inr (hfrom p hp)) (fun _ => .inr hinside) hcap
    · rw [State.completeCompaction_plain (Bool.eq_false_of_not_eq_true hdue)] at hcap ⊢
      exact h.setStore_from hsound.compacted_readyFrom Store.compacted_rangeCheckDue hcap

end Sys2Proof.Machine

/-! SUPPORT. The other moves keep every READY preset playable, and so does every step. -/

namespace Sys2Proof.Machine

variable {s t : State} {st : Store}

/-- A move that leaves the store and the start record alone keeps ContentSound. -/
theorem State.ContentSound.congr (h : s.ContentSound) (hstore : t.store = s.store) (hstart : t.start = s.start) :
    t.ContentSound := by
  have hrecord : t.record = s.record := by
    unfold State.record
    rw [hstart]
  exact
  { softRange := hstart ▸ h.softRange
    stagedRange := hstart ▸ h.stagedRange
    playable := hstore ▸ h.playable
    inside := hstore ▸ hstart ▸ h.inside
    captured := by
      rw [hstore, hrecord]
      exact h.captured }

/-- Freezing the record puts the check of the ranges off, or makes it (R23). -/
theorem Store.Sound.checkFrozen_ready (h : st.Sound) (w : StartRecord) {p : Preset}
    (hp : ((st.checkFrozen w).entry p).state = .ready) :
    ((st.entry p).state = .ready ∧ (st.checkFrozen w).keyframes p = st.keyframes p) ∧
    ((st.checkFrozen w).rangeCheckDue = false → insideRange w (st.keyframes p)) := by
  unfold Store.checkFrozen at hp ⊢
  split at hp
  · rename_i hc
    rw [if_pos hc]
    exact ⟨⟨hp, rfl⟩, nofun⟩
  · rename_i hc
    rw [if_neg hc]
    obtain ⟨hready, hkeys, hinside⟩ := h.checkRanges_ready w.lo w.hi hp
    exact ⟨⟨hready, hkeys⟩, fun _ => hinside⟩

theorem State.ContentSound.frozenWith (h : s.ContentSound) (hsound : s.store.Sound) (hrec : s.store.recording = none)
    {w : StartRecord} (hw : s.start.staged = some w.toSection1) : (s.frozenWith w).ContentSound where
  softRange r hr := by
    cases hr
    exact h.stagedRange _ hw
  stagedRange := nofun
  playable p hp := by
    obtain ⟨⟨hready, hkeys⟩, -⟩ := hsound.checkFrozen_ready w hp
    show Machine.playable ((s.store.checkFrozen w).keyframes p)
    rw [hkeys]
    exact h.playable p hready
  inside p r hr hdue hp := by
    cases hr
    obtain ⟨⟨-, hkeys⟩, hinside⟩ := hsound.checkFrozen_ready w hp
    show insideRange w ((s.store.checkFrozen w).keyframes p)
    rw [hkeys]
    exact hinside hdue
  captured r hr := by
    obtain ⟨-, hkept, -⟩ := Store.checkFrozen_frame (st := s.store) w
    exact absurd ((hkept.trans hrec).symm.trans hr) nofun

theorem State.ContentSound.restarted (h : s.ContentSound) (hsound : s.store.Sound) (straps : Station)
    (hrec : s.store.recording = none) : (s.restarted straps).ContentSound where
  softRange := nofun
  stagedRange := nofun
  playable p hp := by
    rw [State.restarted_store, State.endRecording_none hrec] at hp ⊢
    obtain ⟨hready, hkeys⟩ := hsound.discardDownload_readyFrom p hp
    rw [hkeys]
    exact h.playable p hready
  inside := nofun
  captured r hr := absurd ((State.restarted_recording straps).symm.trans hr) nofun

/-- Every move keeps ContentSound. -/
theorem Move.contentSound (h : s.ContentSound) (hsound : s.StoreSound) (hmode : s.ModeSound) (m : Move s t) :
    t.ContentSound := by
  cases m with
  | aside hsame => exact h.congr hsame.store hsame.start
  | store hmove => exact hmove.contentSound h hsound.store hmode
  | stages q hrec hq =>
    exact { h with
      stagedRange := fun q' hq' => by
        cases hq'
        exact hq }
  | freezes w hst hw =>
    have hnone : s.store.recording = none := by
      by_contra hr
      exact nomatch hst.symm.trans (hmode.recordingInRun (Option.isSome_iff_ne_none.mpr hr))
    exact h.frozenWith hsound.store hnone hw
  | restarts straps hr => exact h.restarted hsound.store straps hr
  | loads | seeks | unseeks | starts | idles | runs | blends | triggers | latches | halts | rests | enters =>
    exact h.congr rfl rfl

theorem State.ContentSound.rstnAsserted (h : s.ContentSound) : s.rstnAsserted.ContentSound := by
  unfold State.rstnAsserted
  split
  · exact
    { h with
      playable := fun _ hp => (Store.reset_notReady hp).elim
      inside := fun _ _ _ _ hp => (Store.reset_notReady hp).elim
      captured := nofun }
  · exact { h with }

theorem contentSound_stepInvariant : StepInvariant fun s => (s.ModeSound ∧ s.StoreSound) ∧ s.ContentSound where
  modeSound h := h.1.1
  afterReset straps pins :=
    ⟨storeSound_stepInvariant.afterReset straps pins, State.afterReset_contentSound straps pins⟩
  setPending q h := ⟨storeSound_stepInvariant.setPending q h.1, { h.2 with }⟩
  setDrdy b h := ⟨storeSound_stepInvariant.setDrdy b h.1, { h.2 with }⟩
  rstnAsserted h := ⟨storeSound_stepInvariant.rstnAsserted h.1, h.2.rstnAsserted⟩
  move hrst h m := ⟨storeSound_stepInvariant.move hrst h.1 m, m.contentSound h.2 h.1.2 h.1.1⟩

/-- Settles O7: what becomes READY passed the checks of PRESET_CLOSE or was captured; every other preset keeps its keyframes. -/
theorem stepKeepsPresetsPlayable : Obligations.StepKeepsPresetsPlayable := fun _ _ hmode hsound h hstep =>
  (contentSound_stepInvariant.step ⟨⟨hmode, hsound⟩, h⟩ hstep).2

end Sys2Proof.Machine

/-! SUPPORT. The axis at an expiry: coming to rest in HALTING (R76, R77, R133), and the bounds of setpoint and velocity (R68 to
R73, R76). -/

namespace Sys2Proof.Machine

variable {s t : State}

/-! An expiry in HALTING and in HALTED. -/

theorem State.computed_halting (h : s.halt.station = .halting) : s.computed = s.ageExpiry.computeHalting := by
  unfold State.computed State.computeExpiry
  rw [State.ageExpiry_halt, h]

theorem State.computed_halted (h : s.halt.station = .halted) : s.computed = s.ageExpiry.blendHalted := by
  unfold State.computed State.computeExpiry
  rw [State.ageExpiry_halt, h]

/-- The deceleration of HALTING touches no cue slot, and HALTED is reached exactly where it stores v = 0 (R76, R133). -/
theorem State.computeHalting_frame (h : s.halt.station = .halting) :
    s.computeHalting.running = s.running ∧ s.computeHalting.next = s.next ∧
    s.computeHalting.halt.station = if s.computeHalting.blend.v = 0 then .halted else .halting := by
  unfold State.computeHalting
  dsimp only
  by_cases hrest : s.blendHalting.blend.v = 0
  · rw [if_pos hrest]
    exact ⟨rfl, rfl, (if_pos hrest).symm⟩
  · rw [if_neg hrest]
    exact ⟨rfl, rfl, h.trans (if_neg hrest).symm⟩

/-- An expiry outside RUN changes nothing of the trigger, the mark unit, the start record, the epoch and the halt record. -/
theorem State.expiry_outside_rest (hrun : s.halt.station ≠ .run) :
    s.expiry.halt.epoch = s.halt.epoch ∧ s.expiry.halt.record = s.halt.record ∧ s.expiry.trigger = s.trigger ∧
    s.expiry.mark = s.mark ∧ s.expiry.start = s.start := by
  have hcomputed : s.computed.halt.station ≠ .run := by
    rcases State.computed_station (s := s) with hst | ⟨-, hst⟩
    · rwa [hst]
    · rw [hst]
      exact nofun
  obtain ⟨-, -, -, -, htrigger, hhalt⟩ := State.expiry_outside hcomputed
  obtain ⟨-, -, -, -, hmark, hstart, hepoch, -⟩ := State.expiry_frame (s := s)
  obtain ⟨-, -, -, -, ktrigger, -, -, -, -, -, krecord, -⟩ := State.computeExpiry_frame (s := s.ageExpiry) s.stickSupply
  refine ⟨hepoch, ?_, htrigger.trans (ktrigger.trans State.ageExpiry_trigger), hmark, hstart⟩
  rw [hhalt]
  exact krecord.trans (congrArg Halt.record State.ageExpiry_halt)

theorem State.blendHalting_blend : s.blendHalting.blend =
    travelClamp (fu s.record.lo) (fu s.record.hi) s.blend (decelerated s.record.aHalt s.blend.v) := rfl

/-- Settles O20, by what the computation of HALTING and of HALTED leaves to an expiry outside RUN. -/
theorem haltingComesToRestAndHolds : Obligations.HaltingComesToRestAndHolds := by
  refine ⟨fun s hrst hst => ?_, fun s hrst hst => ?_⟩
  · have htimer := State.timerRuns_outside hrst (hst ▸ nofun)
    obtain ⟨hrunning, hnext, hstation⟩ := State.computeHalting_frame (s := s.ageExpiry)
      ((congrArg Halt.station State.ageExpiry_halt).trans hst)
    rw [← State.computed_halting hst] at hrunning hnext hstation
    have hcomputed : s.computed.halt.station ≠ .run := by
      rw [hstation]
      split <;> exact nofun
    obtain ⟨-, enext, erunning, eblend, -, ehalt⟩ := State.expiry_outside hcomputed
    obtain ⟨hepoch, hrecord, htrigger, hmark, hstart⟩ := State.expiry_outside_rest (s := s) (hst ▸ nofun)
    have hblend := eblend.trans (State.computed_blend_halting hst)
    have hreached : s.expiry.halt.station = if s.expiry.blend.v = 0 then .halted else .halting := by
      rw [ehalt, eblend]
      exact hstation
    have hcompletes : s.haltCompletes = true ↔ s.expiry.blend.v = 0 := by
      rw [State.haltCompletes, htimer, hst, hblend, State.blendHalting_blend]
      exact decide_eq_true_iff
    refine ⟨s.expiry, exec_controlPeriodExpiry htimer, hblend, ?_, ?_, hepoch, hrecord, fun hv => ?_, fun hv => ?_,
      erunning.trans (hrunning.trans State.ageExpiry_running), enext.trans (hnext.trans State.ageExpiry_next), htrigger,
      hmark, hstart⟩
    · rw [hreached]
      split
      · exact iff_of_true rfl ‹_›
      · exact iff_of_false nofun ‹_›
    · rw [hreached]
      split
      · exact iff_of_false nofun (not_not.mpr ‹_›)
      · exact iff_of_true rfl ‹_›
    · exact congrArg _ (if_pos (hcompletes.mpr hv))
    · exact congrArg _ (if_neg (mt hcompletes.mp hv))
  · have hcomputed : s.computed.halt.station = .halted := by
      rw [State.computed_halted hst]
      exact (congrArg Halt.station State.ageExpiry_halt).trans hst
    obtain ⟨-, enext, erunning, eblend, -, ehalt⟩ := State.expiry_outside (s := s) (hcomputed ▸ nofun)
    obtain ⟨hepoch, hrecord, htrigger, hmark, hstart⟩ := State.expiry_outside_rest (s := s) (hst ▸ nofun)
    refine ⟨s.expiry, exec_controlPeriodExpiry (State.timerRuns_outside hrst (hst ▸ nofun)),
      eblend.trans (State.computed_blend_halted hst), ?_, hepoch, hrecord, ?_, ?_, htrigger, hmark, hstart⟩
    · rw [ehalt]
      exact hcomputed
    · rw [erunning, State.computed_halted hst]
      exact State.ageExpiry_running
    · rw [enext, State.computed_halted hst]
      exact State.ageExpiry_next

/-! The bounds of a move. -/

/-- The travel clamp only shortens a move, and where it does not act it keeps the velocity wanted (R73). -/
theorem travelClamp_speed (lo hi : Int) (b : Blend) (v : Int) :
    (travelClamp lo hi b v).v.natAbs ≤ v.natAbs ∧ ((travelClamp lo hi b v).atLimit = false → (travelClamp lo hi b v).v = v) := by
  by_cases hhigh : b.x ≤ hi ∧ hi < b.x + v
  · rw [travelClamp_high hhigh]
    exact ⟨by dsimp only; omega, nofun⟩
  · by_cases hlow : lo ≤ b.x ∧ b.x + v < lo
    · rw [travelClamp_low hhigh hlow]
      exact ⟨by dsimp only; omega, nofun⟩
    · rw [travelClamp_free hhigh hlow]
      exact ⟨le_rfl, fun _ => rfl⟩

/-- The two clamps keep the velocity within one amax of the last, and within any bound of the last one and the rate limit
(R72). -/
theorem Limits.velocity_bounds (l : Limits) (x v target : Int) {m : Nat} (hv : v.natAbs ≤ m) (hlim : l.vlim ≤ m) :
    (l.velocity x v target).natAbs ≤ m ∧ (l.velocity x v target - v).natAbs ≤ l.amax := by
  have hpos := (l.allowedPos_le_range x).trans (Nat.min_le_left _ _)
  have hneg := (l.allowedNeg_le_range x).trans (Nat.min_le_left _ _)
  rw [l.velocity_eq]
  omega

theorem decelerated_bounds (a : Nat) (v : Int) :
    (decelerated a v).natAbs ≤ v.natAbs ∧ (decelerated a v - v).natAbs ≤ a := by
  unfold decelerated
  split
  · omega
  · split <;> omega

/-- With a guard factor in its range the rate limit does not exceed vmax (R68). -/
theorem State.rateLimit_le_vmax (hguard : s.record.guardFactor ≤ 256) : s.rateLimit ≤ s.record.vmax := by
  have hcoupled : s.coupled s.record.vmax ≤ s.record.vmax := by
    unfold State.coupled
    split
    · exact Nat.min_le_left _ _
    · exact le_rfl
  have hguarded : s.guarded (s.coupled s.record.vmax) ≤ s.coupled s.record.vmax := by
    unfold State.guarded
    split
    · exact Nat.div_le_of_le_mul ((Nat.mul_le_mul_left _ hguard).trans_eq (Nat.mul_comm _ _))
    · exact le_rfl
  unfold State.rateLimit
  dsimp only
  split
  · exact (Nat.min_le_left _ _).trans (hguarded.trans hcoupled)
  · exact hguarded.trans hcoupled

/-- An expiry in RUN moves the axis by the limit stage, with the limits it finds after the cue engine (R56). -/
theorem State.expiry_limitStage (hrun : s.halt.station = .run) :
    ∃ target, s.expiry.blend.x = (limitStage s.ageExpiry.cueExpiry.limits s.blend target).x ∧
      s.expiry.blend.v = (limitStage s.ageExpiry.cueExpiry.limits s.blend target).v ∧
      s.expiry.blend.atLimit = (limitStage s.ageExpiry.cueExpiry.limits s.blend target).atLimit := by
  have hb : s.ageExpiry.cueExpiry.blend = s.blend := by rw [State.cueExpiry_eq]; simp
  obtain ⟨hx, hv, hat⟩ := State.expiry_setpoint hrun
  rw [hx, hv, hat, State.storedSetpoint_eq, ← hb]
  unfold State.blendRun
  split <;> exact ⟨_, rfl, rfl, rfl⟩

/-- An expiry outside RUN and CONFIG leaves the axis as its computation does. -/
theorem State.expiry_blend_outside (hrun : s.halt.station ≠ .run) : s.expiry.blend = s.computed.blend := by
  have hcomputed : s.computed.halt.station ≠ .run := by
    rcases State.computed_station (s := s) with hst | ⟨-, hst⟩
    · rwa [hst]
    · rw [hst]
      exact nofun
  obtain ⟨-, -, -, hblend, -⟩ := State.expiry_outside hcomputed
  exact hblend

theorem State.expiry_inside (hst : s.halt.station ≠ .config) (hlo : fu s.record.lo ≤ s.blend.x)
    (hhi : s.blend.x ≤ fu s.record.hi) : fu s.record.lo ≤ s.expiry.blend.x ∧ s.expiry.blend.x ≤ fu s.record.hi := by
  cases h : s.halt.station with
  | config => exact absurd h hst
  | run =>
    obtain ⟨target, hx, -, -⟩ := State.expiry_limitStage h
    have hlimits : s.ageExpiry.cueExpiry.limits.lo = fu s.record.lo ∧ s.ageExpiry.cueExpiry.limits.hi = fu s.record.hi := by
      simp [State.limits, State.cueExpiry_record]
    rw [hx, limitStage, hlimits.1, hlimits.2]
    exact travelClamp_inside _ hlo hhi
  | halting =>
    rw [State.expiry_blend_outside (h ▸ nofun), State.computed_blend_halting h]
    exact travelClamp_inside _ hlo hhi
  | halted =>
    rw [State.expiry_blend_outside (h ▸ nofun), State.computed_blend_halted h]
    exact ⟨hlo, hhi⟩

theorem State.expiry_speed_run (hrun : s.halt.station = .run) (hguard : s.record.guardFactor ≤ 256)
    (hv : s.blend.v.natAbs ≤ s.record.vmax) : s.expiry.blend.v.natAbs ≤ s.record.vmax ∧
      (s.expiry.blend.atLimit = false → (s.expiry.blend.v - s.blend.v).natAbs ≤ s.record.amax) := by
  have hrecord : s.ageExpiry.cueExpiry.record = s.record := by rw [State.cueExpiry_record, State.ageExpiry_record]
  obtain ⟨target, -, hv', hat⟩ := State.expiry_limitStage hrun
  have hlim : s.ageExpiry.cueExpiry.limits.vlim ≤ s.record.vmax :=
    (State.rateLimit_le_vmax (hrecord ▸ hguard)).trans_eq (congrArg (fun w : StartRecord => w.vmax) hrecord)
  obtain ⟨hspeed, hstep⟩ := Limits.velocity_bounds s.ageExpiry.cueExpiry.limits s.blend.x s.blend.v target hv hlim
  obtain ⟨hclamped, hfree⟩ := travelClamp_speed s.ageExpiry.cueExpiry.limits.lo s.ageExpiry.cueExpiry.limits.hi s.blend
    (s.ageExpiry.cueExpiry.limits.velocity s.blend.x s.blend.v target)
  have hamax : s.ageExpiry.cueExpiry.limits.amax = s.record.amax :=
    congrArg (fun w : StartRecord => w.amax) hrecord
  rw [hv', hat]
  refine ⟨hclamped.trans hspeed, fun hnot => ?_⟩
  rw [limitStage, hfree hnot]
  exact hamax ▸ hstep

theorem State.expiry_speed_halting (hst : s.halt.station = .halting) : s.expiry.blend.v.natAbs ≤ s.blend.v.natAbs ∧
    (s.expiry.blend.atLimit = false → (s.expiry.blend.v - s.blend.v).natAbs ≤ s.record.aHalt) := by
  obtain ⟨hspeed, hstep⟩ := decelerated_bounds s.record.aHalt s.blend.v
  obtain ⟨hclamped, hfree⟩ := travelClamp_speed (fu s.record.lo) (fu s.record.hi) s.blend
    (decelerated s.record.aHalt s.blend.v)
  rw [State.expiry_blend_outside (hst ▸ nofun), State.computed_blend_halting hst]
  refine ⟨hclamped.trans hspeed, fun hnot => ?_⟩
  rwa [hfree hnot]

/-- Settles O22, state by state: the limit stage in RUN, the deceleration in HALTING, the hold in HALTED. -/
theorem setpointAndVelocityStayWithinLimits : Obligations.SetpointAndVelocityStayWithinLimits := by
  refine ⟨fun s hrst hst hlo hhi => ⟨s.expiry, exec_controlPeriodExpiry (State.timerRuns_outside hrst hst),
    State.expiry_inside hst hlo hhi⟩, fun s hrst hst hguard hv => ⟨s.expiry,
    exec_controlPeriodExpiry (State.timerRuns_outside hrst hst), ?_⟩⟩
  cases h : s.halt.station with
  | config => exact absurd h hst
  | run =>
    obtain ⟨hspeed, hstep⟩ := State.expiry_speed_run h hguard hv
    exact ⟨hspeed, fun _ => hstep, nofun⟩
  | halting =>
    obtain ⟨hspeed, hstep⟩ := State.expiry_speed_halting h
    exact ⟨hspeed.trans hv, nofun, fun _ => hstep⟩
  | halted =>
    rw [State.expiry_blend_outside (h ▸ nofun), State.computed_blend_halted h]
    exact ⟨Nat.zero_le _, nofun, nofun⟩

end Sys2Proof.Machine

/-! SUPPORT. A frame as this part puts it on the line is read back as its header and payload (R157 to R160), and a report as the
fields it carries (R99, R187). -/

namespace Sys2Proof.Machine

variable {own straps n : Station} {first : Bool}

/-- A frame put on the line with a payload of at most 64 bytes passes the receive checker's test and is read by its header
(R158, R159). -/
theorem decodeArrival_frameOnLine (key kind : Byte) {p : List Byte} (hlen : p.length ≤ 64) :
    decodeArrival own straps first (frameOnLine key kind p) = decodeFrame own straps first key kind p := by
  have hcount : (nat8 p.length).toNat = p.length := by
    rw [nat8, BitVec.toNat_ofNat]
    omega
  have hgood : burstGood key kind (nat8 p.length) (p ++ be16 (crc16 (key :: kind :: nat8 p.length :: p))) = true :=
    (burstGood_iff ..).mpr ⟨p, _, _, rfl, hcount.le.trans hlen, hcount.symm, be16_join _⟩
  have htake : (p ++ be16 (crc16 (key :: kind :: nat8 p.length :: p))).take (nat8 p.length).toNat = p := by
    rw [hcount]
    exact List.take_left
  refine Eq.trans (if_pos ⟨rfl, hgood⟩) ?_
  exact congrArg (decodeFrame own straps first key kind) htake

/-! The frame's class picks its reader (R160, R168). -/

theorem decodeFrame_class0 (kind : Byte) (p : List Byte) :
    decodeFrame own straps first (keyOf 0 n) kind p = decodeClass0 n kind p := by
  have hclass : keyClass (keyOf 0 n) = 0 := keyClass_keyOf 0 n
  have hsender : keySender (keyOf 0 n) = n := keySender_keyOf 0 n
  rw [decodeFrame, hclass, hsender]
  rfl

theorem decodeFrame_class1 (kind : Byte) (p : List Byte) :
    decodeFrame own straps first (keyOf 1 n) kind p = decodeClass1 n kind p := by
  have hclass : keyClass (keyOf 1 n) = 1 := keyClass_keyOf 1 n
  have hsender : keySender (keyOf 1 n) = n := keySender_keyOf 1 n
  rw [decodeFrame, hclass, hsender]
  rfl

theorem decodeFrame_class2 (kind : Byte) (p : List Byte) :
    decodeFrame own straps first (keyOf 2 n) kind p = decodeClass2 n kind p first := by
  have hclass : keyClass (keyOf 2 n) = 2 := keyClass_keyOf 2 n
  have hsender : keySender (keyOf 2 n) = n := keySender_keyOf 2 n
  rw [decodeFrame, hclass, hsender]
  rfl

theorem decodeFrame_class3 (kind : Byte) (p : List Byte) :
    decodeFrame own straps first (keyOf 3 n) kind p = decodeClass3 own straps n kind p := by
  have hclass : keyClass (keyOf 3 n) = 3 := keyClass_keyOf 3 n
  have hsender : keySender (keyOf 3 n) = n := keySender_keyOf 3 n
  rw [decodeFrame, hclass, hsender]
  rfl

/-! The frames. -/

theorem decodeArrival_haltFrame (f : HaltFrame) :
    decodeArrival own straps first (InFlight.bytes { key := keyOf 0 n, frame := .halt f }) =
      .halt n (stationByte f.origin) f.causes f.epoch := by
  refine (decodeArrival_frameOnLine _ _ (p := [_, _, _]) (show 3 ≤ 64 by decide)).trans ?_
  rw [decodeFrame_class0]
  exact if_pos ⟨rfl, rfl⟩

theorem decodeArrival_goFrame (m : StationMask) (id : Byte) :
    decodeArrival own straps first (InFlight.bytes { key := keyOf 1 n, frame := .cue (.go m id) }) = .go n m id := by
  refine (decodeArrival_frameOnLine _ _ (p := [_, _, _]) (show 3 ≤ 64 by decide)).trans ?_
  rw [decodeFrame_class1]
  exact congrArg (Instr.go n · id) (be16_join m)

theorem decodeArrival_stopFrame (m : StationMask) (id : Byte) :
    decodeArrival own straps first (InFlight.bytes { key := keyOf 1 n, frame := .cue (.stop m id) }) = .stop n m id := by
  refine (decodeArrival_frameOnLine _ _ (p := [_, _, _]) (show 3 ≤ 64 by decide)).trans ?_
  rw [decodeFrame_class1]
  exact congrArg (Instr.stop n · id) (be16_join m)

theorem decodeArrival_replyFrame (r : Reply) (h : r.results.length ≤ 60) :
    decodeArrival own straps first (InFlight.bytes { key := keyOf 3 n, frame := .reply r }) = .serviceReply n := by
  have hlen : (Frame.reply r).payload.length ≤ 64 := by
    simp only [Frame.payload, List.length_append, List.length_cons, List.length_nil]
    omega
  refine (decodeArrival_frameOnLine _ _ hlen).trans ?_
  rw [decodeFrame_class3]
  rfl

/-- Settles O8, frame by frame. -/
theorem ownFramesDecode : Obligations.OwnFramesDecode := fun _ _ _ _ =>
  ⟨decodeArrival_haltFrame, fun m id => ⟨decodeArrival_goFrame m id, decodeArrival_stopFrame m id⟩,
    decodeArrival_replyFrame⟩

/-! The report. -/

/-- The fields of a report as its 27 bytes carry them (R99, chapter 11). -/
def Report.carried (r : Report) : RawReport :=
  { axisKind := axisKindCode r.axisKind, state := stationStateCode r.state, epoch := r.epoch, causes := r.causes,
    measured := BitVec.ofInt 32 r.measured, velocity := BitVec.ofInt 32 r.velocity, flags := r.flags,
    controlPeriod := BitVec.ofNat 16 r.controlPeriod, cueId := r.cueId, cueState := cueStateCode r.cueState,
    cueTime := BitVec.ofNat 24 r.cueTime, ability := BitVec.ofNat 24 r.ability, stickOwner := stationField r.stickOwner,
    nextId := r.nextId, nextState := nextStateCode r.nextState }

theorem decodeReport_reportBytes (r : Report) : decodeReport (reportBytes r) = r.carried := by
  have hmeasured : (decodeReport (reportBytes r)).measured = BitVec.ofInt 32 r.measured := be32_join _
  have hvelocity : (decodeReport (reportBytes r)).velocity = BitVec.ofInt 32 r.velocity := be32_join _
  have hflags : (decodeReport (reportBytes r)).flags = r.flags := be16_join _
  have hperiod : (decodeReport (reportBytes r)).controlPeriod = BitVec.ofNat 16 r.controlPeriod := be16_join _
  have htime : (decodeReport (reportBytes r)).cueTime = BitVec.ofNat 24 r.cueTime := be24_join _
  have hability : (decodeReport (reportBytes r)).ability = BitVec.ofNat 24 r.ability := be24_join _
  calc decodeReport (reportBytes r) = { r.carried with
        measured := (decodeReport (reportBytes r)).measured, velocity := (decodeReport (reportBytes r)).velocity,
        flags := (decodeReport (reportBytes r)).flags, controlPeriod := (decodeReport (reportBytes r)).controlPeriod,
        cueTime := (decodeReport (reportBytes r)).cueTime, ability := (decodeReport (reportBytes r)).ability } := rfl
    _ = r.carried := by rw [hmeasured, hvelocity, hflags, hperiod, htime, hability]; rfl

/-- A 32-bit field carries every integer of its range (R187). -/
theorem toInt_ofInt32 {x : Int} (h : -2147483648 ≤ x ∧ x ≤ 2147483647) : (BitVec.ofInt 32 x).toInt = x := by
  rw [BitVec.toInt_ofInt]
  exact Int.bmod_eq_of_le (by omega) (by omega)

theorem toNat_ofNat_of_lt {w n : Nat} (h : n < 2 ^ w) : (BitVec.ofNat w n).toNat = n := by
  rw [BitVec.toNat_ofNat, Nat.mod_eq_of_lt h]

/-- A report within what its places carry is read back from them. -/
theorem reportOf_carried {r : Report} (h : r.Carried) : reportOf r.carried = some r := by
  have hperiod : (BitVec.ofNat 16 r.controlPeriod).toNat = r.controlPeriod :=
    toNat_ofNat_of_lt (by have := h.controlPeriod; omega)
  have htime : (BitVec.ofNat 24 r.cueTime).toNat = r.cueTime := toNat_ofNat_of_lt (by have := h.cueTime; omega)
  have hability : (BitVec.ofNat 24 r.ability).toNat = r.ability := toNat_ofNat_of_lt (by have := h.ability; omega)
  have hrange : reportNumbersInRange r.carried := by
    refine ⟨h.controlPeriod.imp (fun hzero => ?_) fun hin => ?_, ?_⟩
    · show BitVec.ofNat 16 r.controlPeriod = 0
      exact congrArg (BitVec.ofNat 16) hzero
    · show 500 ≤ (BitVec.ofNat 16 r.controlPeriod).toNat ∧ (BitVec.ofNat 16 r.controlPeriod).toNat ≤ 4000
      rwa [hperiod]
    · show (BitVec.ofNat 24 r.ability).toNat ≤ 65536
      rw [hability]
      exact h.ability
  refine (reportOf_eq_some_iff r.carried r).mpr ⟨reportedKindOf_code _, stationStateOf_code _, cueStateOf_code _,
    nextStateOf_code _, stationFieldOf_stationField _, hrange, ?_⟩
  simp only [Report.carried, toInt_ofInt32 h.measured, toInt_ofInt32 h.velocity, h.flags, hperiod, htime, hability]

/-- Settles O9: the frame is read by its header, and its payload as the fields the report carries. -/
theorem ownReportDecodes : Obligations.OwnReportDecodes := fun n own straps first r h => by
  refine ⟨r.carried, ?_, reportOf_carried h⟩
  refine (decodeArrival_frameOnLine _ _ (show (reportBytes r).length ≤ 64 by rw [reportBytes_length]; decide)).trans ?_
  rw [decodeFrame_class2, ← decodeReport_reportBytes]
  exact if_pos ⟨rfl, reportBytes_length r⟩

end Sys2Proof.Machine
